-- ==== Sys2Proof/Word.lean ====
section
/-! DEFINITION. The word types of FURBADGE_CORE: the widths that 00_scope.md R9-R10 and 10_state.md R36-R40
give to bytes, readings, codes and counters. -/

namespace Sys2Proof

/-- One unsigned byte: a colour channel, a hue, a frame, a buffer byte (30_encoding.md R108). -/
abbrev Byte := BitVec 8

/-- A 16-bit unsigned value: a raw reading, a frequency, a duration (30_encoding.md R101, R110). -/
abbrev Half := BitVec 16

/-- A 2-bit code: serializer phase, debouncer state, tone drive (30_encoding.md R106, R107, R112). -/
abbrev Code2 := BitVec 2

/-- A dispatcher phase code (30_encoding.md R103). -/
abbrev PhaseCode := BitVec 4

/-- The input vector of one cycle, rst at bit 18 down to sense_data at bits 15..0 (30_encoding.md R101). -/
abbrev InVec := BitVec 19

/-- One sound ROM entry (30_encoding.md R110). -/
abbrev Entry := BitVec 64

/-- The serializer's frame register, first bit at bit 47 (41_light_transmitter.md R172). -/
abbrev FrameWord := BitVec 48

end Sys2Proof
end

