-- ==== Sys2Proof/Config.lean ====
section
/-! DEFINITION. The types of the parameter record of 00_scope.md R7. The record is plain data: the default values
and the constraints on it stand in Machine/Parameters.lean. -/

namespace Sys2Proof

/-- A red, green and blue byte (30_encoding.md R108). -/
structure Rgb where
  r : Byte
  g : Byte
  b : Byte
deriving DecidableEq, Repr

/-- A hue, saturation and value byte (43_animation_engine.md R231). -/
structure Hsv where
  h : Byte
  s : Byte
  v : Byte
deriving DecidableEq, Repr

/-- A colour pair: the left light's triple, then the right light's (43_animation_engine.md R231). -/
structure HsvPair where
  left : Hsv
  right : Hsv
deriving DecidableEq, Repr

/-- A colour channel of one light. -/
inductive Channel where
  | red
  | green
  | blue
deriving DecidableEq, Repr

/-- `CHANNEL_ORDER`: the order of a device's three bytes on the wire (00_scope.md R7, 20_memory.md R83). -/
structure ChannelOrder where
  x0 : Channel
  x1 : Channel
  x2 : Channel
deriving DecidableEq, Repr

/-- A render function of a mode, total from a frame byte to a colour pair (43_animation_engine.md R233): one of the
eight default formulas of R240-R247, or any other function given by its 256 values, frame 0 first (DESIGN CHOICE, log 3). -/
inductive Behaviour where
  | idle0
  | touched0
  | idle1
  | touched1
  | idle2
  | touched2
  | idle3
  | touched3
  | table (rows : List HsvPair)
deriving DecidableEq, Repr

/-- One entry of `MODE_TABLE`: the pair (IDLE_m, TOUCHED_m) of 43_animation_engine.md R233. -/
structure Mode where
  idle : Behaviour
  touched : Behaviour
deriving DecidableEq, Repr

/-- The parameter record of 00_scope.md R7, in the table's order. Fixed for the life of a run. -/
structure Params where
  /-- `F_CLK`, in Hz. -/
  fClk : Nat
  /-- `T0H_CYC`. -/
  t0h : Nat
  /-- `T0L_CYC`. -/
  t0l : Nat
  /-- `T1H_CYC`. -/
  t1h : Nat
  /-- `T1L_CYC`. -/
  t1l : Nat
  /-- `LATCH_CYC`. -/
  latchCyc : Nat
  /-- `N_LIGHTS`, fixed at 2. -/
  nLights : Nat
  /-- `BUF_LEN`, fixed at 6. -/
  bufLen : Nat
  /-- `CHANNEL_ORDER`. -/
  channelOrder : ChannelOrder
  /-- `HUE_SECTORS`, 6 or 8. -/
  hueSectors : Nat
  /-- `HUE_TABLE`. -/
  hueTable : List Rgb
  /-- `TOUCH_THRESHOLD`. -/
  touchThreshold : Nat
  /-- `LONG_TOUCH`. -/
  longTouch : Nat
  /-- `HOLDOFF_TICKS`. -/
  holdoffTicks : Nat
  /-- `MODE_COUNT`. -/
  modeCount : Nat
  /-- `MODE_TABLE`. -/
  modeTable : List Mode
  /-- `TOUCH_FRAMES[m]`. -/
  touchFrames : List Nat
  /-- `TICK_MS`. -/
  tickMs : Nat
  /-- `SND_ROM_DEPTH`. -/
  sndRomDepth : Nat
  /-- `SND_ROM`, index 0 first. -/
  sndRom : List Entry
  /-- `N_PROGRAMS`. -/
  nPrograms : Nat
  /-- `PROGRAM_BASE[p]`. -/
  programBase : List Nat
  /-- `MODE_CHANGE_PROG`. -/
  modeChangeProg : Nat
  /-- `BOOP_PROG[m]`; `none` is NONE. -/
  boopProg : List (Option Nat)
  /-- `SND_MAX_STEPS`. -/
  sndMaxSteps : Nat
  /-- `CAL_SAMPLES`, fixed at 10. -/
  calSamples : Nat
  /-- `CAL_GAP_CYC`. -/
  calGapCyc : Nat
  /-- `SENSE_TIMEOUT_CYC`; `none` is NONE. -/
  senseTimeoutCyc : Option Nat
deriving DecidableEq, Repr

end Sys2Proof
end

