-- ==== Sys2Proof/Syntax.lean ====
section
/-! DEFINITION. The instructions of FURBADGE_CORE: one constructor per row of spec/opcode_table.json
(30_encoding.md R100, R118), and the seven formats they are encoded in. -/

namespace Sys2Proof

/-- The seven kinds of encoded value of 30_encoding.md R100. -/
inductive Format where
  /-- The input vector of a cycle, 19 bits (R101). -/
  | input
  /-- The dispatcher phase, 4 bits (R103). -/
  | ph
  /-- The serializer phase, 2 bits (R106). -/
  | txp
  /-- The debouncer state, 2 bits (R107). -/
  | db
  /-- A tone drive level, 2 bits (R112). -/
  | vol
  /-- A sound ROM entry, 64 bits (R110). -/
  | snd
  /-- A data symbol on the wire, 25 cycles at the default parameters (R115). -/
  | sym
  /-- The latch symbol on the wire, 1000 cycles at the default parameters (R115). -/
  | symLatch
deriving DecidableEq, Repr

/-- The width in bits of a format's encoded value (30_encoding.md R100); a symbol's is its number of cycles at the
default parameters. -/
def Format.width : Format → Nat
  | .input => 19
  | .ph => 4
  | .txp => 2
  | .db => 2
  | .vol => 2
  | .snd => 64
  | .sym => 25
  | .symLatch => 1000

/-- The instructions: one constructor per row of the opcode table. -/
inductive Instr where
  /-- RESET, `IN[18] = 1` (R102). `rest` is `IN[17:0]`, which the cycle ignores. -/
  | reset (rest : BitVec 18)
  /-- TICK, `IN[18:17] = 01` (R102). `ack` and `data` are `IN[16]` and `IN[15:0]`: a SENSE_ACK may hold in the same
  vector and is then decoded too (DEDUCED, log 8). -/
  | tick (ack : Bool) (data : Half)
  /-- SENSE_ACK without a tick, `IN[18:16] = 001` (R102). `data` is the raw reading. -/
  | senseAck (data : Half)
  /-- NOP, `IN[18:16] = 000` (R102). `data` is ignored. -/
  | nop (data : Half)
  /-- Phase code 0 (R104). -/
  | phIdle
  /-- Phase code 1 (R104). -/
  | phSndStep
  /-- Phase code 2 (R104). -/
  | phRender
  /-- Phase code 3 (R104). -/
  | phTxStart
  /-- Phase code 4 (R104). -/
  | phTxWait
  /-- Phase code 5 (R104). -/
  | phFrameInc
  /-- Phase code 6 (R104). -/
  | phSenseWait
  /-- Phase code 7 (R104). -/
  | phDebounce
  /-- Phase code 8 (R104). -/
  | phCalWait
  /-- Phase code 9 (R104). -/
  | phCalGap
  /-- Phase code 10 (R104). -/
  | phCalDone
  /-- Reserved phase code 11 (R105). -/
  | phReserved11
  /-- Reserved phase code 12 (R105). -/
  | phReserved12
  /-- Reserved phase code 13 (R105). -/
  | phReserved13
  /-- Reserved phase code 14 (R105). -/
  | phReserved14
  /-- Reserved phase code 15 (R105). -/
  | phReserved15
  /-- Serializer phase 0 (R106). -/
  | txIdle
  /-- Serializer phase 1 (R106). -/
  | txHigh
  /-- Serializer phase 2 (R106). -/
  | txLow
  /-- Serializer phase 3 (R106). -/
  | txLatch
  /-- Debouncer state 0 (R107). -/
  | dbIdle
  /-- Debouncer state 1 (R107). -/
  | dbTouching
  /-- Debouncer state 2 (R107). -/
  | dbHoldoff
  /-- Reserved debouncer state 3 (R107). -/
  | dbReserved3
  /-- Tone drive 0 (R112). -/
  | volOff
  /-- Tone drive 1 (R112). -/
  | volSoft
  /-- Tone drive 2 (R112). -/
  | volLoud
  /-- Reserved tone drive 3 (R112, R113). -/
  | volReserved3
  /-- SENTINEL: an entry with `DUR` = 0 (R111). The other fields are carried and ignored. -/
  | sentinel (freq : Half) (glide : Half) (vol : Code2) (reserved : BitVec 14)
  /-- STEP: an entry with `DUR` != 0 (R110, R111). -/
  | stepEntry (freq : Half) (dur : Half) (glide : Half) (vol : Code2) (reserved : BitVec 14)
  /-- The wire symbol of a 0 bit (R115). -/
  | bit0
  /-- The wire symbol of a 1 bit (R115). -/
  | bit1
  /-- The latch after a frame (R115). -/
  | latch
deriving DecidableEq, Repr

/-- The format an instruction is encoded in (30_encoding.md R100). -/
def Instr.format : Instr → Format
  | .reset _ => .input
  | .tick _ _ => .input
  | .senseAck _ => .input
  | .nop _ => .input
  | .phIdle => .ph
  | .phSndStep => .ph
  | .phRender => .ph
  | .phTxStart => .ph
  | .phTxWait => .ph
  | .phFrameInc => .ph
  | .phSenseWait => .ph
  | .phDebounce => .ph
  | .phCalWait => .ph
  | .phCalGap => .ph
  | .phCalDone => .ph
  | .phReserved11 => .ph
  | .phReserved12 => .ph
  | .phReserved13 => .ph
  | .phReserved14 => .ph
  | .phReserved15 => .ph
  | .txIdle => .txp
  | .txHigh => .txp
  | .txLow => .txp
  | .txLatch => .txp
  | .dbIdle => .db
  | .dbTouching => .db
  | .dbHoldoff => .db
  | .dbReserved3 => .db
  | .volOff => .vol
  | .volSoft => .vol
  | .volLoud => .vol
  | .volReserved3 => .vol
  | .sentinel _ _ _ _ => .snd
  | .stepEntry _ _ _ _ _ => .snd
  | .bit0 => .sym
  | .bit1 => .sym
  | .latch => .symLatch

end Sys2Proof
end

