-- ==== Sys2Proof/WellFormed.lean ====
section
/-! DEFINITION. Well-formedness of instructions: the checks of 30_encoding.md R111 and R113 on a sound ROM entry. Every
other instruction is well-formed with every operand. -/

namespace Sys2Proof

/-- Why an instruction term is ill-formed. -/
inductive IllFormed where
  /-- A STEP with `DUR` = 0: such an entry is a SENTINEL (R111). -/
  | stepWithoutDuration
  /-- A STEP with `VOL` = 3 (R113). -/
  | reservedVolume
  /-- An entry with a nonzero bit in `e[63:50]` (R113). -/
  | reservedBits
deriving DecidableEq, Repr

/-- The first check an instruction breaks, or `none`. -/
def Instr.illFormed : Instr → Option IllFormed
  | .sentinel _ _ _ reserved => if reserved = 0#14 then none else some .reservedBits
  | .stepEntry _ dur _ vol reserved =>
    if dur = 0#16 then some .stepWithoutDuration
    else if vol = 3#2 then some .reservedVolume
    else if reserved = 0#14 then none
    else some .reservedBits
  | _ => none

/-- The instruction breaks no check. -/
abbrev Instr.WellFormed (i : Instr) : Prop := i.illFormed = none

end Sys2Proof
end

