-- ==== Sys2Proof/Decode.lean ====
section
/-! DEFINITION. The decoder of 30_encoding.md, total and rejecting by name, and the encoder written from the same tables.
A word is a natural number whose bit 0 is the least significant bit, as in spec/opcode_table.json. -/

namespace Sys2Proof

/-! ## Fields of the input vector (R101) -/

/-- `IN[18]`, the synchronous reset. -/
def inRst (v : InVec) : Bool := v.getLsbD 18

/-- `IN[17]`, the timebase pulse. -/
def inTick (v : InVec) : Bool := v.getLsbD 17

/-- `IN[16]`, the sense reading is valid. -/
def inAck (v : InVec) : Bool := v.getLsbD 16

/-- `IN[15:0]`, the raw reading. -/
def inData (v : InVec) : Half := v.extractLsb' 0 16

/-- The vector `{rst, tick, sense_ack, sense_data}` (R101). -/
def inputVector (rst tick ack : Bool) (data : Half) : InVec :=
  (BitVec.ofBool rst ++ BitVec.ofBool tick ++ BitVec.ofBool ack ++ data).setWidth 19

/-! ## Fields of a sound ROM entry (R110, R114; 44_sound_sequencer.md R261) -/

/-- `FREQ(e) = zext_16(e[15:0])`. -/
def entryFreq (e : Entry) : Half := e.extractLsb' 0 16

/-- `DUR(e) = zext_16(e[31:16])`. -/
def entryDur (e : Entry) : Half := e.extractLsb' 16 16

/-- The bits of `GLIDE(e)`, `e[47:32]`; its value is their signed reading. -/
def entryGlide (e : Entry) : Half := e.extractLsb' 32 16

/-- `VOL(e) = e[49:48]`. -/
def entryVol (e : Entry) : Code2 := e.extractLsb' 48 2

/-- The reserved bits `e[63:50]`. -/
def entryReserved (e : Entry) : BitVec 14 := e.extractLsb' 50 14

/-- The entry with the given fields (R110, R116). -/
def entryOf (freq dur glide : Half) (vol : Code2) (reserved : BitVec 14) : Entry :=
  (reserved ++ vol ++ glide ++ dur ++ freq).setWidth 64

/-- The SENTINEL row's match: `DUR` is zero (R111). -/
def isSentinel (e : Entry) : Bool := entryDur e == 0#16

/-! ## Decoders, one per format -/

/-- The instruction of an input vector, by the priority of R102: RESET, TICK, SENSE_ACK, NOP. -/
def decodeIn (v : InVec) : Instr :=
  if inRst v then .reset (v.extractLsb' 0 18)
  else if inTick v then .tick (inAck v) (inData v)
  else if inAck v then .senseAck (inData v)
  else .nop (inData v)

/-- The operation a phase code selects (R104, R105). -/
def decodePh (p : PhaseCode) : Instr :=
  match p.toNat with
  | 0 => .phIdle
  | 1 => .phSndStep
  | 2 => .phRender
  | 3 => .phTxStart
  | 4 => .phTxWait
  | 5 => .phFrameInc
  | 6 => .phSenseWait
  | 7 => .phDebounce
  | 8 => .phCalWait
  | 9 => .phCalGap
  | 10 => .phCalDone
  | 11 => .phReserved11
  | 12 => .phReserved12
  | 13 => .phReserved13
  | 14 => .phReserved14
  | _ => .phReserved15

/-- The operation a serializer phase selects (R106). -/
def decodeTxp (c : Code2) : Instr :=
  match c.toNat with
  | 0 => .txIdle
  | 1 => .txHigh
  | 2 => .txLow
  | _ => .txLatch

/-- The operation a debouncer state selects (R107). -/
def decodeDb (c : Code2) : Instr :=
  match c.toNat with
  | 0 => .dbIdle
  | 1 => .dbTouching
  | 2 => .dbHoldoff
  | _ => .dbReserved3

/-- The drive a volume code selects (R112). -/
def decodeVol (c : Code2) : Instr :=
  match c.toNat with
  | 0 => .volOff
  | 1 => .volSoft
  | 2 => .volLoud
  | _ => .volReserved3

/-- The kind of a sound ROM entry: the SENTINEL row is tried first (R111). -/
def decodeSnd (e : Entry) : Instr :=
  if isSentinel e then .sentinel (entryFreq e) (entryGlide e) (entryVol e) (entryReserved e)
  else .stepEntry (entryFreq e) (entryDur e) (entryGlide e) (entryVol e) (entryReserved e)

/-- The waveform of BIT0 at the default parameters, first cycle at bit 24 (R115; DEDUCED, log 20). -/
def bit0Wave : Nat := 0b1111111100000000000000000

/-- The waveform of BIT1 at the default parameters, first cycle at bit 24 (R115). -/
def bit1Wave : Nat := 0b1111111111111111000000000

/-- Why a word is not an instruction. -/
inductive DecodeError where
  /-- The word has a nonzero bit above its format's width (30_encoding.md R100). -/
  | tooWide
  /-- A 25-cycle waveform that is neither BIT0 nor BIT1 (R115). -/
  | notASymbol
  /-- A line that is not low throughout the latch (R115). -/
  | notALatch
  /-- No format has this width (R100). -/
  | noSuchWidth
deriving DecidableEq, Repr

/-- The instruction a word stands for in a format, or the reason why it stands for none. -/
def decode (f : Format) (w : Nat) : Except DecodeError Instr :=
  if 2 ^ f.width ≤ w then .error .tooWide
  else
    match f with
    | .input => .ok (decodeIn (BitVec.ofNat 19 w))
    | .ph => .ok (decodePh (BitVec.ofNat 4 w))
    | .txp => .ok (decodeTxp (BitVec.ofNat 2 w))
    | .db => .ok (decodeDb (BitVec.ofNat 2 w))
    | .vol => .ok (decodeVol (BitVec.ofNat 2 w))
    | .snd => .ok (decodeSnd (BitVec.ofNat 64 w))
    | .sym => if w = bit0Wave then .ok .bit0 else if w = bit1Wave then .ok .bit1 else .error .notASymbol
    | .symLatch => if w = 0 then .ok .latch else .error .notALatch

/-! ## Encoder -/

/-- The word of an instruction in its format, written from the tables of R101, R104-R107, R110, R112 and R115. -/
def encode : Instr → Nat
  | .reset rest => 0x40000 + rest.toNat
  | .tick ack data => (inputVector false true ack data).toNat
  | .senseAck data => (inputVector false false true data).toNat
  | .nop data => (inputVector false false false data).toNat
  | .phIdle => 0
  | .phSndStep => 1
  | .phRender => 2
  | .phTxStart => 3
  | .phTxWait => 4
  | .phFrameInc => 5
  | .phSenseWait => 6
  | .phDebounce => 7
  | .phCalWait => 8
  | .phCalGap => 9
  | .phCalDone => 10
  | .phReserved11 => 11
  | .phReserved12 => 12
  | .phReserved13 => 13
  | .phReserved14 => 14
  | .phReserved15 => 15
  | .txIdle => 0
  | .txHigh => 1
  | .txLow => 2
  | .txLatch => 3
  | .dbIdle => 0
  | .dbTouching => 1
  | .dbHoldoff => 2
  | .dbReserved3 => 3
  | .volOff => 0
  | .volSoft => 1
  | .volLoud => 2
  | .volReserved3 => 3
  | .sentinel freq glide vol reserved => (entryOf freq 0#16 glide vol reserved).toNat
  | .stepEntry freq dur glide vol reserved => (entryOf freq dur glide vol reserved).toNat
  | .bit0 => bit0Wave
  | .bit1 => bit1Wave
  | .latch => 0

/-! ## The host's view of a word -/

/-- The format whose encoded values are `nbits` bits, or that many whole bytes. Three formats are 2 bits wide and four
fit one byte: a byte is read as a phase code, 2 bits as a serializer phase (DESIGN CHOICE, log 6). -/
def formatOfBits (nbits : Nat) : Option Format :=
  match nbits with
  | 2 => some .txp
  | 4 => some .ph
  | 8 => some .ph
  | 19 => some .input
  | 24 => some .input
  | 25 => some .sym
  | 32 => some .sym
  | 64 => some .snd
  | 1000 => some .symLatch
  | _ => none

/-- The instruction the decoder reads from a word of `nbits` bits, numbered as in spec/opcode_table.json. -/
def decodeTableWord (nbits w : Nat) : Option Instr :=
  match formatOfBits nbits with
  | none => none
  | some f =>
    match decode f w with
    | .ok i => some i
    | .error _ => none

end Sys2Proof
end

