-- ==== Sys2Proof/Machine/Parameters.lean ====
section
/-! DEFINITION. The parameter record of 00_scope.md R7: its default values, the symbol widths of another clock (41_light_transmitter.md
R185), and the constraints a record must meet (R7, 40_color_model.md R145, 44_sound_sequencer.md R264). -/

namespace Sys2Proof

/-! ## Default values -/

/-- The 8-sector `HUE_TABLE` (40_color_model.md R146). -/
def hueTable8 : List Rgb :=
  [⟨255, 0, 0⟩, ⟨255, 128, 0⟩, ⟨255, 255, 0⟩, ⟨0, 255, 0⟩,
   ⟨0, 255, 255⟩, ⟨0, 0, 255⟩, ⟨128, 0, 255⟩, ⟨255, 0, 255⟩]

/-- The 6-sector `HUE_TABLE` (40_color_model.md R146). -/
def hueTable6 : List Rgb :=
  [⟨255, 0, 0⟩, ⟨255, 255, 0⟩, ⟨0, 255, 0⟩, ⟨0, 255, 255⟩, ⟨0, 0, 255⟩, ⟨255, 0, 255⟩]

/-- The default mode table, four modes (43_animation_engine.md R240-R247). -/
def defaultModeTable : List Mode :=
  [⟨.idle0, .touched0⟩, ⟨.idle1, .touched1⟩, ⟨.idle2, .touched2⟩, ⟨.idle3, .touched3⟩]

/-- The default sound ROM, 256 entries (44_sound_sequencer.md R262). -/
def defaultRom : List Entry :=
  [0x00010000006401B8#64, 0x0000000000640000#64, 0x0001000000640370#64, 0x0000000000000000#64,
   0x0002002800C80258#64, 0x0002FFD800C803E8#64, 0x0000000000000000#64]
  ++ List.replicate 249 0#64

/-- The default record: the `default` column of 00_scope.md R7. -/
def Params.default : Params where
  fClk := 20000000
  t0h := 8
  t0l := 17
  t1h := 16
  t1l := 9
  latchCyc := 1000
  nLights := 2
  bufLen := 6
  channelOrder := ⟨.green, .red, .blue⟩
  hueSectors := 8
  hueTable := hueTable8
  touchThreshold := 8
  longTouch := 32
  holdoffTicks := 16
  modeCount := 4
  modeTable := defaultModeTable
  touchFrames := [32, 64, 32, 192]
  tickMs := 20
  sndRomDepth := 256
  sndRom := defaultRom
  nPrograms := 2
  programBase := [0, 4]
  modeChangeProg := 0
  boopProg := [none, none, none, none]
  sndMaxSteps := 255
  calSamples := 10
  calGapCyc := 1000000
  senseTimeoutCyc := none

/-! ## Symbol widths of a clock (41_light_transmitter.md R185) -/

/-- `round(ns * F_CLK)`, half away from zero and at least 1, for a width of `ns` nanoseconds. -/
def roundCycles (ns fClk : Nat) : Nat := max 1 ((2 * ns * fClk + 1000000000) / 2000000000)

/-- `ceil(50e-6 * F_CLK)`, the least latch (00_scope.md R7, 41_light_transmitter.md R185), of a whole number of Hz (DEDUCED,
log 17). -/
def latchFloor (fClk : Nat) : Nat := (fClk + 19999) / 20000

/-- The record with the symbol widths that R185 gives a clock of `fClk` Hz. -/
def Params.forClock (p : Params) (fClk : Nat) : Params :=
  { p with
    fClk := fClk
    t0h := roundCycles 400 fClk
    t0l := roundCycles 850 fClk
    t1h := roundCycles 800 fClk
    t1l := roundCycles 450 fClk
    latchCyc := latchFloor fClk }

/-! ## Constraints -/

/-- `lo <= n <= hi`. -/
def inRange (lo hi n : Nat) : Bool := decide (lo ≤ n) && decide (n ≤ hi)

/-- The clock, symbol and latch rows of R7. -/
def Params.clockLegal (p : Params) : Bool :=
  decide (0 < p.fClk) && decide (1 ≤ p.t0h) && decide (1 ≤ p.t0l) && decide (1 ≤ p.t1h) && decide (1 ≤ p.t1l)
    && decide (latchFloor p.fClk ≤ p.latchCyc)

/-- The three channels are all different: a permutation of (R, G, B) (R7). -/
def ChannelOrder.legal (o : ChannelOrder) : Bool :=
  decide (o.x0 ≠ o.x1) && decide (o.x0 ≠ o.x2) && decide (o.x1 ≠ o.x2)

/-- Some channel is 255 at both endpoints of a sector (40_color_model.md R145). -/
def sharesFull (a b : Rgb) : Bool :=
  (a.r == 255 && b.r == 255) || (a.g == 255 && b.g == 255) || (a.b == 255 && b.b == 255)

/-- No endpoint has all three channels 255 (40_color_model.md R145). -/
def notWhite (a : Rgb) : Bool := !(a.r == 255 && a.g == 255 && a.b == 255)

/-- The sectors of a table as endpoint pairs: `E[k]` with `E[(k+1) mod N]`. -/
def sectorPairs (t : List Rgb) : List (Rgb × Rgb) := t.zip (t.drop 1 ++ t.take 1)

/-- `HUE_SECTORS` is 6 or 8 and `HUE_TABLE` is a legal table of that many endpoints (R7, 40_color_model.md R145). -/
def Params.hueLegal (p : Params) : Bool :=
  (p.hueSectors == 6 || p.hueSectors == 8) && p.hueTable.length == p.hueSectors
    && (sectorPairs p.hueTable).all (fun ab => sharesFull ab.1 ab.2)
    && p.hueTable.all notWhite

/-- The touch and calibration rows of R7. -/
def Params.touchLegal (p : Params) : Bool :=
  decide (p.touchThreshold ≤ 65535) && inRange 2 255 p.longTouch && decide (p.holdoffTicks ≤ 255)
    && p.calSamples == 10 && inRange 1 (2 ^ 20 - 1) p.calGapCyc
    && (match p.senseTimeoutCyc with
        | none => true
        | some t => inRange 1 (2 ^ 20 - 1) t)

/-- A behaviour given as a table is total on all 256 frame values (43_animation_engine.md R248). -/
def Behaviour.total : Behaviour → Bool
  | .table rows => rows.length == 256
  | _ => true

/-- The light and mode rows of R7. -/
def Params.modeLegal (p : Params) : Bool :=
  p.nLights == 2 && p.bufLen == 6 && p.channelOrder.legal && inRange 1 256 p.modeCount
    && p.modeTable.length == p.modeCount && p.modeTable.all (fun m => m.idle.total && m.touched.total)
    && p.touchFrames.length == p.modeCount && p.touchFrames.all (inRange 1 256)

/-- The entries up to the first sentinel, or to the end if there is none, have no reserved volume and no reserved bit
(44_sound_sequencer.md R264, 30_encoding.md R113; DEDUCED, log 11). -/
def entriesLegal : List Entry → Bool
  | [] => true
  | e :: es => isSentinel e || (entryVol e != 3#2 && entryReserved e == 0#14 && entriesLegal es)

/-- Every program of the ROM is well-formed (44_sound_sequencer.md R264). -/
def Params.romLegal (p : Params) : Bool := p.programBase.all (fun b => entriesLegal (p.sndRom.drop b))

/-- The sound rows of R7 and the constraints between them. -/
def Params.soundLegal (p : Params) : Bool :=
  inRange 1 65535 p.tickMs && inRange 1 256 p.sndRomDepth && p.sndRom.length == p.sndRomDepth
    && inRange 1 16 p.nPrograms && p.programBase.length == p.nPrograms
    && p.programBase.all (fun b => decide (b < p.sndRomDepth))
    && decide (p.modeChangeProg < p.nPrograms) && p.boopProg.length == p.modeCount
    && p.boopProg.all (fun o => match o with
        | none => true
        | some q => decide (q < p.nPrograms))
    && inRange 1 255 p.sndMaxSteps && p.romLegal

/-- The record breaks no constraint: it describes a block (00_scope.md R7). -/
def Params.legal (p : Params) : Bool :=
  p.clockLegal && p.hueLegal && p.touchLegal && p.modeLegal && p.soundLegal

end Sys2Proof
end

