-- ==== Sys2Proof/Machine/State.lean ====
section
/-! DEFINITION. The machine's state as plain data (10_state.md R36-R40), its reset value (70_reset_and_hazards.md R350), and the
reasons a step can stop (60_exceptions.md R326, 00_scope.md R7). -/

namespace Sys2Proof.Machine

/-- The light buffer as address and byte pairs in canonical form (10_state.md R38, R42; DESIGN CHOICE, log 13). -/
abbrev Memory := List Host.Cell

/-- Touch debouncer and calibration (10_state.md R37). -/
structure Touch where
  /-- `db_state`. -/
  dbState : Code2
  /-- `dur`, the touch-duration counter. -/
  dur : BitVec 8
  /-- `hold`, the hold-off counter. -/
  hold : BitVec 8
  /-- `sense_val`, the calibrated reading. -/
  senseVal : Half
  /-- `baseline`. -/
  baseline : Half
  /-- `cal_cnt`. -/
  calCnt : BitVec 4
  /-- `cal_sum`. -/
  calSum : BitVec 20
  /-- `cal_timer`. -/
  calTimer : BitVec 20
  /-- `sense_tmr`. -/
  senseTmr : BitVec 20
  /-- `sense_timeout`, sticky. -/
  senseTimeout : Bool
deriving DecidableEq, Repr

/-- Sound sequencer (10_state.md R39). -/
structure Sound where
  /-- `snd_active`. -/
  active : Bool
  /-- `snd_ptr`. -/
  ptr : BitVec 8
  /-- `snd_steps`. -/
  steps : BitVec 8
  /-- `snd_cnt`, the countdown. -/
  cnt : Half
  /-- `snd_freq`. -/
  freq : Half
  /-- `tone_freq`. -/
  toneFreq : Half
  /-- `tone_vol`. -/
  toneVol : Code2
  /-- `snd_err`, sticky. -/
  err : Bool
deriving DecidableEq, Repr

/-- One-wire serializer (10_state.md R40). `tx_cnt` is a natural number, as R40 allows (DEDUCED, log 12). -/
structure Serial where
  /-- `tx_phase`. -/
  phase : Code2
  /-- `tx_cnt`. -/
  cnt : Nat
  /-- `tx_bit`. -/
  bit : BitVec 6
  /-- `tx_sh`. -/
  sh : FrameWord
deriving DecidableEq, Repr

/-- The state record `S(c)` of 10_state.md R30 with the two fields of the model's own: the inputs still to come and the
parameter record. -/
structure State where
  /-- The parameter record (00_scope.md R7). No operation writes it (DESIGN CHOICE, log 2). -/
  params : Params
  /-- The input vectors of this cycle and the next ones, oldest first; after the last, IN is 0 (DESIGN CHOICE, log 1). -/
  inputs : List InVec
  /-- `phase` (10_state.md R36). -/
  phase : PhaseCode
  /-- `mode` (10_state.md R36). -/
  mode : BitVec 8
  /-- `frame` (10_state.md R36). -/
  frame : BitVec 8
  /-- `touched` (10_state.md R36). -/
  touched : Bool
  /-- `tick_overrun`, sticky (10_state.md R36). -/
  tickOverrun : Bool
  /-- The registers of 10_state.md R37. -/
  touch : Touch
  /-- `buf[0..5]` (10_state.md R38). -/
  buf : Memory
  /-- The registers of 10_state.md R39. -/
  snd : Sound
  /-- The registers of 10_state.md R40. -/
  tx : Serial
deriving DecidableEq, Repr

/-- The model faults of 60_exceptions.md R326. -/
inductive Fault where
  /-- `reserved_phase`: raised by a cycle that finds `phase` >= 11 and by the meanings of the reserved phase rows (30_encoding.md
  R105). Safe: the spec itself says the run stops. -/
  | reservedPhase
  /-- `reserved_db_state`: raised by a DEBOUNCE that finds `db_state` = 3 (42_touch_debouncer.md R213). Safe: the spec itself says
  the run stops. -/
  | reservedDbState
  /-- `rom_index`: raised by a ROM read at or past `SND_ROM_DEPTH` (20_memory.md R82). Safe: the spec itself says the run
  stops. -/
  | romIndex
  /-- `invariant`: raised by a cycle that starts in a state that breaks 10_state.md R45, and by a component row whose operand
  lies outside it (a mode past `MODE_COUNT`, a `tx_bit` past 47, a load into a busy serializer). Safe: the spec itself
  says the run stops. -/
  | invariant
deriving DecidableEq, Repr

/-- The refusals. -/
inductive Refusal where
  /-- Raised by exec alone, for an instruction that has no meaning yet. Safe: nothing is claimed of it. -/
  | notModelled (mnemonic : String)
  /-- The parameter record breaks a constraint of 00_scope.md R7 or 44_sound_sequencer.md R264: raised by every cycle under such a
  record, and by a component row that looks up what the record lacks. Safe: such a record describes no hardware. -/
  | illegalParameters
  /-- The reserved volume code 3: raised by VOL_RESERVED_3 and by a STEP that holds it (30_encoding.md R113). Safe: a ROM that
  holds it where a program can reach it is refused. -/
  | reservedVolume
deriving DecidableEq, Repr

/-- `touch` after reset (10_state.md R37). -/
def Touch.reset : Touch where
  dbState := 0
  dur := 0
  hold := 0
  senseVal := 0
  baseline := 0
  calCnt := 0
  calSum := 0
  calTimer := 0
  senseTmr := 0
  senseTimeout := false

/-- `snd` after reset (10_state.md R39). -/
def Sound.reset : Sound where
  active := false
  ptr := 0
  steps := 0
  cnt := 0
  freq := 0
  toneFreq := 0
  toneVol := 0
  err := false

/-- `tx` after reset (10_state.md R40). -/
def Serial.reset : Serial where
  phase := 0
  cnt := 0
  bit := 0
  sh := 0

/-- The machine right after reset: every field of 10_state.md R36-R40 at its reset value, `phase` = CAL_WAIT and every other
field 0 (70_reset_and_hazards.md R350), the default parameter record, and no input listed (DESIGN CHOICE, log 19). -/
def State.reset : State where
  params := Params.default
  inputs := []
  phase := 8
  mode := 0
  frame := 0
  touched := false
  tickOverrun := false
  touch := Touch.reset
  buf := []
  snd := Sound.reset
  tx := Serial.reset

end Sys2Proof.Machine
end

