-- ==== Sys2Proof/Machine/Ops.lean ====
section
/-! DEFINITION. The named operations every meaning is built from: sequencing of outcomes, the light buffer, the sound ROM
(00_scope.md R12), the input ports and the phase register. The block has no trap mechanism (60_exceptions.md R323), so there is
no exception entry here: abnormal conditions set the sticky flags of Flags.lean in place. -/

namespace Sys2Proof.Machine

/-- What an operation answers. -/
abbrev Result := Host.Outcome State Fault Refusal

/-- `k` on the state that `r` answers; a stop stays a stop. -/
def andThen (r : Result) (k : State → Result) : Result :=
  match r with
  | .next s => k s
  | .fault f => .fault f
  | .refused q => .refused q

/-! ## The light buffer (20_memory.md R83) -/

/-- What a byte that is not listed reads as: the buffer is all 0 after reset (10_state.md R38). -/
def unlistedByte : Byte := 0#8

/-- The byte at an address. -/
def Memory.read (m : Memory) (a : Nat) : Byte :=
  match m with
  | [] => unlistedByte
  | (b, v) :: rest => if b = a then v else Memory.read rest a

/-- The memory without the cells of an address. -/
def Memory.erase (m : Memory) (a : Nat) : Memory :=
  match m with
  | [] => []
  | (b, v) :: rest => if b = a then Memory.erase rest a else (b, v) :: Memory.erase rest a

/-- The memory with a cell put before the first greater address. -/
def Memory.insert (m : Memory) (a : Nat) (v : Byte) : Memory :=
  match m with
  | [] => [(a, v)]
  | (b, w) :: rest => if a < b then (a, v) :: (b, w) :: rest else (b, w) :: Memory.insert rest a v

/-- The memory with the byte at an address set; the unlisted value removes the cell. -/
def Memory.write (m : Memory) (a : Nat) (v : Byte) : Memory :=
  if v = unlistedByte then Memory.erase m a else Memory.insert (Memory.erase m a) a v

/-- Addresses strictly rise from `lo` on, stay below the buffer's 6 bytes, and no cell holds the unlisted value. -/
def Memory.wfFrom (lo : Nat) (m : Memory) : Bool :=
  match m with
  | [] => true
  | (a, v) :: rest => decide (lo ≤ a) && decide (a < 6) && v != unlistedByte && Memory.wfFrom (a + 1) rest

/-- The canonical form of the light buffer. -/
def Memory.wf (m : Memory) : Bool := Memory.wfFrom 0 m

/-- `BufRead(i)` (00_scope.md R12). -/
def bufRead (s : State) (i : Fin 6) : Byte := Memory.read s.buf i.val

/-- `BufWrite(i, v)` on the buffer's contents (00_scope.md R12). -/
def bufWrite (m : Memory) (i : Fin 6) (v : Byte) : Memory := Memory.write m i.val v

/-! ## The sound ROM (20_memory.md R81, R82) -/

/-- `k` on `RomRead(i)`. An index past the end is `model_fault(rom_index)` (R82); a record whose `SND_ROM` is shorter than its
depth is refused (00_scope.md R7). One address is one entry (DEDUCED, log 14). -/
def withRomEntry (s : State) (i : Nat) (k : Entry → Result) : Result :=
  if i < s.params.sndRomDepth then
    match s.params.sndRom[i]? with
    | some e => k e
    | none => .refused .illegalParameters
  else .fault .romIndex

/-! ## Input ports (10_state.md R31) -/

/-- `in(c)`, the input vector of the current cycle; 0 when none is listed (DESIGN CHOICE, log 1). -/
def currentIn (s : State) : InVec := s.inputs.headD 0#19

/-- The state with the current cycle's input vector set. -/
def driveInput (s : State) (v : InVec) : State := { s with inputs := v :: s.inputs.tail }

/-- The state with the current cycle's input vector consumed. -/
def popInput (s : State) : State := { s with inputs := s.inputs.tail }

/-! ## The phase register (00_scope.md R13) -/

/-- `phase <- p`. -/
def setPhase (s : State) (p : PhaseCode) : State := { s with phase := p }

/-- The reset state of 70_reset_and_hazards.md R350 under the record that is in force; the inputs still to come are kept. -/
def resetState (s : State) : State := { State.reset with params := s.params, inputs := s.inputs }

end Sys2Proof.Machine
end

