-- ==== Sys2Proof/Machine/Operands.lean ====
section
/-! DEFINITION. Operand assembly: the sound step's operands (30_encoding.md R114), the calibrated reading (42_touch_debouncer.md
R202), the frame's bits and symbol widths (41_light_transmitter.md R171, R172), and the wrapping counters of 00_scope.md R10. -/

namespace Sys2Proof.Machine

/-- `glide = sext_16(e[47:32])`, in [-32768, 32767] (30_encoding.md R114). -/
def glideValue (g : Half) : Int := g.toInt

/-- `wrap_16(f + glide)` (44_sound_sequencer.md R269). -/
def addGlide (f g : Half) : Half := BitVec.ofInt 16 ((f.toNat : Int) + glideValue g)

/-- `DUR div TICK_MS`, the countdown of a step (44_sound_sequencer.md R267). -/
def countdown (p : Params) (dur : Half) : Half := BitVec.ofNat 16 (dur.toNat / p.tickMs)

/-- `raw - baseline`, clamped at 0 (42_touch_debouncer.md R202). -/
def calibrated (raw baseline : Half) : Half :=
  if baseline.toNat < raw.toNat then BitVec.ofNat 16 (raw.toNat - baseline.toNat) else 0#16

/-- `cal_sum div CAL_SAMPLES` (42_touch_debouncer.md R205). -/
def average (p : Params) (sum : BitVec 20) : Half := BitVec.ofNat 16 (sum.toNat / p.calSamples)

/-- Bit `k` of the frame in time order, `tx_sh[47 - k]` (41_light_transmitter.md R172). -/
def frameBit (sh : FrameWord) (k : Nat) : Bool := sh.getLsbD (47 - k)

/-- `{buf[0], .., buf[5]}`, `buf[0]` at bits 47..40 (41_light_transmitter.md R173). -/
def packFrame (s : State) : FrameWord :=
  bufRead s 0 ++ bufRead s 1 ++ bufRead s 2 ++ bufRead s 3 ++ bufRead s 4 ++ bufRead s 5

/-- `TH(b)`, the high cycles of a bit value (41_light_transmitter.md R171). -/
def highCycles (p : Params) (b : Bool) : Nat := if b then p.t1h else p.t0h

/-- `TL(b)`, the low cycles of a bit value (41_light_transmitter.md R171). -/
def lowCycles (p : Params) (b : Bool) : Nat := if b then p.t1l else p.t0l

/-- The waveform of a data symbol, first cycle first: `TH(b)` high cycles, then `TL(b)` low ones (30_encoding.md R115). -/
def symbolWave (p : Params) (b : Bool) : List Bool :=
  List.replicate (highCycles p b) true ++ List.replicate (lowCycles p b) false

/-- The waveform of the latch: `LATCH_CYC` low cycles (30_encoding.md R115). -/
def latchWave (p : Params) : List Bool := List.replicate p.latchCyc false

end Sys2Proof.Machine
end

