-- ==== Sys2Proof/Machine/Flags.lean ====
section
/-! DEFINITION. Flags and outputs: the sticky status flags (60_exceptions.md R320), the tests the rules make on the state, the
invariants of 10_state.md R45, and the output function `G` of R32. -/

namespace Sys2Proof.Machine

/-! ## Sticky flags: `set_sticky(F)` writes 1 (60_exceptions.md R320) -/

/-- `set_sticky(tick_overrun)`. -/
def setTickOverrun (s : State) : State := { s with tickOverrun := true }

/-- `set_sticky(snd_err)`. -/
def setSndErr (s : State) : State := { s with snd := { s.snd with err := true } }

/-- `set_sticky(sense_timeout)`. -/
def setSenseTimeout (s : State) : State := { s with touch := { s.touch with senseTimeout := true } }

/-! ## Tests -/

/-- `over = (sense_val > TOUCH_THRESHOLD)`; equality is no touch (42_touch_debouncer.md section 4). -/
def overThreshold (s : State) : Bool := decide (s.params.touchThreshold < s.touch.senseVal.toNat)

/-- The phase is one of SND_STEP .. DEBOUNCE, codes 1-7 (10_state.md R32). -/
def busy (s : State) : Bool := decide (1 ≤ s.phase.toNat) && decide (s.phase.toNat ≤ 7)

/-- The phase is CAL_WAIT, CAL_GAP or CAL_DONE, codes 8-10 (10_state.md R32). -/
def calibrating (s : State) : Bool := decide (8 ≤ s.phase.toNat) && decide (s.phase.toNat ≤ 10)

/-- Phase IDLE (30_encoding.md R104). -/
def inIdle (s : State) : Bool := s.phase == 0#4

/-- `tx_phase` is TX_IDLE (30_encoding.md R106). -/
def txIsIdle (s : State) : Bool := s.tx.phase == 0#2

/-- The block is quiescent: IDLE with the serializer idle (45_tick_dispatcher.md R303). -/
def quiescent (s : State) : Bool := inIdle s && txIsIdle s

/-! ## The invariants of 10_state.md R45 -/

/-- `phase`, `db_state`, `mode` and `snd` clauses of R45. -/
def codesLegal (s : State) : Bool :=
  decide (s.phase.toNat ≤ 10) && s.touch.dbState != 3#2 && decide (s.mode.toNat < s.params.modeCount)
    && s.snd.toneVol != 3#2 && decide (s.snd.steps.toNat ≤ s.params.sndMaxSteps)

/-- `dur` and `hold` clauses of R45. -/
def countersLegal (s : State) : Bool :=
  decide (s.touch.dur.toNat < s.params.longTouch)
    && (s.touch.dbState == 1#2 || s.touch.dur == 0#8)
    && decide (s.touch.hold.toNat ≤ s.params.holdoffTicks)
    && (if s.touch.dbState == 2#2 then decide (1 ≤ s.touch.hold.toNat) else s.touch.hold == 0#8)

/-- `tx_bit` and `tx_phase` clauses of R45. -/
def serialLegal (s : State) : Bool :=
  decide (s.tx.bit.toNat ≤ 47) && (s.tx.phase == 0#2 || s.phase == 4#4)

/-- The state keeps every invariant of R45. -/
def State.invariant (s : State) : Bool := codesLegal s && countersLegal s && serialLegal s

/-! ## Outputs -/

/-- The output ports (10_state.md R31). -/
structure Outputs where
  ledDout : Bool
  senseReq : Bool
  toneFreq : Half
  toneVol : Code2
  ready : Bool
  busy : Bool
  tickOverrun : Bool
  sndErr : Bool
  senseTimeout : Bool
  obsMode : BitVec 8
  obsFrame : BitVec 8
  obsTouched : Bool
  obsDbState : Code2
  obsSndActive : Bool
deriving DecidableEq, Repr

/-- The output function `G` (10_state.md R32). -/
def State.outputs (s : State) : Outputs where
  ledDout := s.tx.phase == 1#2
  senseReq := s.phase == 6#4 || s.phase == 8#4
  toneFreq := s.snd.toneFreq
  toneVol := s.snd.toneVol
  ready := !calibrating s
  busy := Machine.busy s
  tickOverrun := s.tickOverrun
  sndErr := s.snd.err
  senseTimeout := s.touch.senseTimeout
  obsMode := s.mode
  obsFrame := s.frame
  obsTouched := s.touched
  obsDbState := s.touch.dbState
  obsSndActive := s.snd.active

end Sys2Proof.Machine
end

