-- ==== Sys2Proof/Machine/Color.lean ====
section
/-! DEFINITION. The HSV-to-RGB converter (40_color_model.md): a pure function of three bytes and the hue parameters. Every
operation computes on exact naturals and narrows to a byte at its end. -/

namespace Sys2Proof.Machine

/-- SCALE8: `(x * (1 + s)) >> 8` (R141). -/
def scale8 (x s : Byte) : Byte := BitVec.ofNat 8 ((x.toNat * (1 + s.toNat)) >>> 8)

/-- SECTOR, the sector index `(h * N) >> 8` (R142). -/
def hueSector (p : Params) (h : Byte) : Nat := (h.toNat * p.hueSectors) >>> 8

/-- SECTOR, the position inside the sector `(h * N) & 0xFF` (R142). -/
def huePosition (p : Params) (h : Byte) : Byte := BitVec.ofNat 8 ((h.toNat * p.hueSectors) &&& 0xFF)

/-- LERP: from `a` toward `b`, rounded toward `a` (R143). -/
def lerp (a b t : Byte) : Byte :=
  if a.toNat ≤ b.toNat then BitVec.ofNat 8 (a.toNat + (((b.toNat - a.toNat) * t.toNat) >>> 8))
  else BitVec.ofNat 8 (a.toNat - (((a.toNat - b.toNat) * t.toNat) >>> 8))

/-- The endpoint `E[k]` of the hue table (R144). A legal table holds every `k < HUE_SECTORS`; RENDER refuses any other. -/
def hueEndpoint (p : Params) (k : Nat) : Rgb := p.hueTable.getD k ⟨0, 0, 0⟩

/-- RAMP (R144). -/
def ramp (p : Params) (h : Byte) : Rgb :=
  let a := hueEndpoint p (hueSector p h)
  let b := hueEndpoint p ((hueSector p h + 1) % p.hueSectors)
  let t := huePosition p h
  ⟨lerp a.r b.r t, lerp a.g b.g t, lerp a.b b.b t⟩

/-- DESAT's floor `((255 - s) * (255 - s)) div 255` (R147). -/
def desatFloor (s : Byte) : Byte := BitVec.ofNat 8 (((255 - s.toNat) * (255 - s.toNat)) / 255)

/-- DESAT: `f + scale8(c, 255 - f)` (R147). -/
def desat (c s : Byte) : Byte :=
  BitVec.ofNat 8 ((desatFloor s).toNat + (scale8 c (BitVec.ofNat 8 (255 - (desatFloor s).toNat))).toNat)

/-- One channel of HSV_TO_RGB: desaturation, then VALUE (R149, R150). -/
def shade (c s v : Byte) : Byte := scale8 (desat c s) v

/-- HSV_TO_RGB (R150). -/
def hsvToRgb (p : Params) (x : Hsv) : Rgb :=
  let c := ramp p x.h
  ⟨shade c.r x.s x.v, shade c.g x.s x.v, shade c.b x.s x.v⟩

end Sys2Proof.Machine
end

