-- ==== Sys2Proof/Machine/Animation.lean ====
section
/-! DEFINITION. The animation frame engine (43_animation_engine.md): the triangle wave, the eight default behaviours, and the
meaning of PH_RENDER. -/

namespace Sys2Proof.Machine

/-- `tri(p, P)` (R239). -/
def tri (p period : Nat) : Nat :=
  let half := period / 2
  let l := if p < half then p else period - 1 - p
  (l * 255) / (half - 1)

/-- `tri` as a value byte. -/
def triByte (p period : Nat) : Byte := BitVec.ofNat 8 (tri p period)

/-- Both lights alike. -/
def bothLights (x : Hsv) : HsvPair := ⟨x, x⟩

/-- White at full value or black: saturation 0 forces white (R241, R245). -/
def whiteWhen (c : Bool) : Hsv := ⟨0, 0, if c then 255 else 0⟩

/-- IDLE_0: an aqua triangle of period 64 on both lights (R240). -/
def renderIdle0 (f : Byte) : HsvPair := bothLights ⟨128, 255, triByte (f.toNat &&& 63) 64⟩

/-- TOUCHED_0: a white strobe of period 4 (R241). -/
def renderTouched0 (f : Byte) : HsvPair := bothLights (whiteWhen ((f.toNat >>> 1) &&& 1 == 0))

/-- IDLE_1: a full hue sweep, the lights half a turn apart (R242). -/
def renderIdle1 (f : Byte) : HsvPair := ⟨⟨f, 255, 255⟩, ⟨BitVec.ofNat 8 ((f.toNat + 128) &&& 255), 255, 255⟩⟩

/-- TOUCHED_1: a hue sweep 16 times faster (R243). -/
def renderTouched1 (f : Byte) : HsvPair := bothLights ⟨BitVec.ofNat 8 ((f.toNat <<< 4) &&& 255), 255, 255⟩

/-- IDLE_2: a red triangle of period 32, the lights half a period apart (R244). -/
def renderIdle2 (f : Byte) : HsvPair :=
  ⟨⟨0, 255, triByte (f.toNat &&& 31) 32⟩, ⟨0, 255, triByte ((f.toNat + 16) &&& 31) 32⟩⟩

/-- TOUCHED_2: a white strobe that alternates between the lights every 4 frames (R245). -/
def renderTouched2 (f : Byte) : HsvPair := ⟨whiteWhen (f.toNat &&& 4 == 0), whiteWhen (f.toNat &&& 4 != 0)⟩

/-- IDLE_3: a dim hue sweep on both lights (R246). -/
def renderIdle3 (f : Byte) : HsvPair := bothLights ⟨f, 255, 64⟩

/-- TOUCHED_3: a hue sweep 4 times faster, the lights in opposite hues (R247). -/
def renderTouched3 (f : Byte) : HsvPair :=
  ⟨⟨BitVec.ofNat 8 ((f.toNat <<< 2) &&& 255), 255, 255⟩,
   ⟨BitVec.ofNat 8 (((f.toNat <<< 2) + 128) &&& 255), 255, 255⟩⟩

/-- The colour pair of a behaviour at a frame (R233); none where a table lacks the frame, which a legal record's does not
(R248). -/
def behaviourAt (b : Behaviour) (f : Byte) : Option HsvPair :=
  match b with
  | .idle0 => some (renderIdle0 f)
  | .touched0 => some (renderTouched0 f)
  | .idle1 => some (renderIdle1 f)
  | .touched1 => some (renderTouched1 f)
  | .idle2 => some (renderIdle2 f)
  | .touched2 => some (renderTouched2 f)
  | .idle3 => some (renderIdle3 f)
  | .touched3 => some (renderTouched3 f)
  | .table rows => rows[f.toNat]?

/-- A channel of a colour. -/
def channelOf (x : Channel) (c : Rgb) : Byte :=
  match x with
  | .red => c.r
  | .green => c.g
  | .blue => c.b

/-- The buffer with the six bytes of two colours written in a channel order (R235). -/
def lightBytes (o : ChannelOrder) (cl cr : Rgb) (m : Memory) : Memory :=
  bufWrite (bufWrite (bufWrite (bufWrite (bufWrite (bufWrite m
    0 (channelOf o.x0 cl)) 1 (channelOf o.x1 cl)) 2 (channelOf o.x2 cl))
    3 (channelOf o.x0 cr)) 4 (channelOf o.x1 cr)) 5 (channelOf o.x2 cr)

/-- The six bytes of two colours written to the buffer, in `CHANNEL_ORDER` (R235). -/
def writeLights (s : State) (cl cr : Rgb) : State :=
  { s with buf := lightBytes s.params.channelOrder cl cr s.buf }

/-- The `touched` flag after a render at the state's frame, for a touched length of `n` frames: cleared when the frame is the
strobe's last or past it (R236). -/
def touchedAfterRender (s : State) (n : Nat) : Bool := s.touched && !decide (n - 1 ≤ s.frame.toNat)

/-- The colour pair the state's mode renders at its frame (R232): a mode past `MODE_COUNT` breaks 10_state.md R45, and a record
that lacks the mode's entry is refused (00_scope.md R7). -/
def withMode (s : State) (k : HsvPair → Nat → Result) : Result :=
  if s.mode.toNat < s.params.modeCount then
    match s.params.modeTable[s.mode.toNat]?, s.params.touchFrames[s.mode.toNat]? with
    | some m, some n =>
      match behaviourAt (if s.touched then m.touched else m.idle) s.frame with
      | some pair => k pair n
      | none => .refused .illegalParameters
    | _, _ => .refused .illegalParameters
  else .fault .invariant

/-- PH_RENDER (R232, R234-R237). A hue table that breaks 40_color_model.md R145 is refused. -/
def execPhRender (s : State) : Result :=
  if s.params.hueLegal then
    withMode s fun pair n =>
      .next { writeLights s (hsvToRgb s.params pair.left) (hsvToRgb s.params pair.right) with
        touched := touchedAfterRender s n
        phase := 3 }
  else .refused .illegalParameters

end Sys2Proof.Machine
end

