-- ==== Sys2Proof/Machine/Sound.lean ====
section
/-! DEFINITION. The sound sequencer (44_sound_sequencer.md): the meanings of the volume rows, of SENTINEL and STEP, the actions
SndSilence, SndEnter, SndStart, SndAdvance and SndStep, and the meaning of PH_SND_STEP. -/

namespace Sys2Proof.Machine

/-- `tone_vol <- code`. -/
def driveVolume (c : Code2) (s : State) : State := { s with snd := { s.snd with toneVol := c } }

/-- VOL_OFF: the drive is off (30_encoding.md R112). -/
def execVolOff (s : State) : Result := .next (driveVolume 0 s)

/-- VOL_SOFT: single-output drive (30_encoding.md R112). -/
def execVolSoft (s : State) : Result := .next (driveVolume 1 s)

/-- VOL_LOUD: complementary dual-output drive (30_encoding.md R112). -/
def execVolLoud (s : State) : Result := .next (driveVolume 2 s)

/-- VOL_RESERVED_3: the hardware never drives `tone_vol` = 3, because a ROM that would is refused (30_encoding.md R113; DEDUCED,
log 18). -/
def execVolReserved3 (_s : State) : Result := .refused .reservedVolume

/-- `tone_vol <- VOL(e)` (R267): the drive of a volume code. -/
def applyVolume (c : Code2) (s : State) : Result :=
  match c.toNat with
  | 0 => execVolOff s
  | 1 => execVolSoft s
  | 2 => execVolLoud s
  | _ => execVolReserved3 s

/-- SndSilence() (R271): the pointer, the countdown, the frequency and the step count keep their values. -/
def sndSilence (s : State) : State :=
  { s with snd := { s.snd with active := false, toneFreq := 0, toneVol := 0 } }

/-- The writes of SndEnter on a step but for its volume (R267). -/
def loadStep (freq dur : Half) (s : State) : State :=
  { s with snd := { s.snd with
      active := true
      freq := freq
      toneFreq := freq
      cnt := countdown s.params dur
      steps := BitVec.ofNat 8 (s.snd.steps.toNat + 1) } }

/-- SENTINEL: SndEnter meets the end of a program and silences; its other fields are ignored (R267, R271, 30_encoding.md R111). -/
def execSentinel (_freq _glide : Half) (_vol : Code2) (_reserved : BitVec 14) (s : State) : Result := .next (sndSilence s)

/-- STEP: SndEnter enters a step, or stops the program at the step bound (R267, R272). A term whose `DUR` is 0 is a sentinel
(30_encoding.md R111). The glide is applied later, by SndStep (R269); the reserved bits are ignored (30_encoding.md R113). -/
def execStepEntry (freq dur _glide : Half) (vol : Code2) (_reserved : BitVec 14) (s : State) : Result :=
  if dur = 0#16 then .next (sndSilence s)
  else if s.snd.steps.toNat = s.params.sndMaxSteps then .next (sndSilence (setSndErr s))
  else applyVolume vol (loadStep freq dur s)

/-- SndEnter on the entry read: the SENTINEL row is tried first (R267, 30_encoding.md R111). -/
def enterEntry (e : Entry) (s : State) : Result :=
  if isSentinel e then execSentinel (entryFreq e) (entryGlide e) (entryVol e) (entryReserved e) s
  else execStepEntry (entryFreq e) (entryDur e) (entryGlide e) (entryVol e) (entryReserved e) s

/-- SndEnter(i) (R267). -/
def sndEnter (i : Nat) (s : State) : Result := withRomEntry s i fun e => enterEntry e s

/-- SndStart(p) (R266). -/
def sndStart (prog : Nat) (s : State) : Result :=
  match s.params.programBase[prog]? with
  | some i => sndEnter i { s with snd := { s.snd with ptr := BitVec.ofNat 8 i, steps := 0 } }
  | none => .refused .illegalParameters

/-- SndAdvance() (R270, R272). -/
def sndAdvance (s : State) : Result :=
  if s.snd.ptr.toNat = s.params.sndRomDepth - 1 then .next (sndSilence (setSndErr s))
  else
    sndEnter (s.snd.ptr.toNat + 1) { s with snd := { s.snd with ptr := BitVec.ofNat 8 (s.snd.ptr.toNat + 1) } }

/-- The glide and the decrement of SndStep on a nonzero countdown (R269). -/
def glideAndCount (e : Entry) (s : State) : State :=
  let f := addGlide s.snd.freq (entryGlide e)
  { s with snd := { s.snd with freq := f, toneFreq := f, cnt := BitVec.ofNat 16 (s.snd.cnt.toNat - 1) } }

/-- SndStep() (R269): the countdown just written decides the advance. -/
def sndStep (s : State) : Result :=
  withRomEntry s s.snd.ptr.toNat fun e =>
    if s.snd.cnt = 0 then sndAdvance s
    else if (glideAndCount e s).snd.cnt = 0 then sndAdvance (glideAndCount e s)
    else .next (glideAndCount e s)

/-- PH_SND_STEP (R268, 45_tick_dispatcher.md R293). -/
def execPhSndStep (s : State) : Result :=
  andThen (if s.snd.active then sndStep s else .next s) fun t => .next (setPhase t 2)

end Sys2Proof.Machine
end

