-- ==== Sys2Proof/Machine/Debouncer.lean ====
section
/-! DEFINITION. The touch debouncer, the sense handshake and the calibration sequencer (42_touch_debouncer.md): the meanings of the
rows DB_* and of PH_SENSE_WAIT, PH_DEBOUNCE, PH_CAL_WAIT, PH_CAL_GAP, PH_CAL_DONE. -/

namespace Sys2Proof.Machine

/-! ## The debouncer step (R206-R211) -/

/-- The touch start's own writes (R207). -/
def beginTouch (s : State) : State :=
  { s with
    touched := true
    frame := 0
    touch := { s.touch with dbState := 1, dur := 1 } }

/-- The program of a touch start in the current mode, if one is configured (R207). -/
def startBoop (s : State) : Result :=
  if s.mode.toNat < s.params.modeCount then
    match s.params.boopProg[s.mode.toNat]? with
    | some (some prog) => sndStart prog s
    | some none => .next s
    | none => .refused .illegalParameters
  else .fault .invariant

/-- DB_IDLE: a reading over the threshold starts a touch (R207). -/
def execDbIdle (s : State) : Result := if overThreshold s then startBoop (beginTouch s) else .next s

/-- The mode-advance event (R209). -/
def modeAdvance (s : State) : Result :=
  sndStart s.params.modeChangeProg
    { s with
      mode := BitVec.ofNat 8 ((s.mode.toNat + 1) % s.params.modeCount)
      touched := false
      touch := { s.touch with dur := 0 } }

/-- The self-loop: the duration counts, or the event fires (R208). -/
def continueTouch (s : State) : Result :=
  if s.touch.dur.toNat + 1 = s.params.longTouch then modeAdvance s
  else .next { s with touch := { s.touch with dur := BitVec.ofNat 8 (s.touch.dur.toNat + 1) } }

/-- The release (R210). -/
def releaseTouch (s : State) : State :=
  if s.params.holdoffTicks = 0 then { s with touch := { s.touch with dur := 0, dbState := 0 } }
  else
    { s with touch := { s.touch with dur := 0, dbState := 2, hold := BitVec.ofNat 8 s.params.holdoffTicks } }

/-- DB_TOUCHING (R208-R210). -/
def execDbTouching (s : State) : Result := if overThreshold s then continueTouch s else .next (releaseTouch s)

/-- DB_HOLDOFF: one tick of the hold-off (R211). A `hold` of 0, which no run has here, wraps (DEDUCED, log 15). -/
def execDbHoldoff (s : State) : Result :=
  .next { s with touch := { s.touch with
    hold := s.touch.hold - 1
    dbState := if s.touch.hold - 1 = 0 then 0 else s.touch.dbState } }

/-- DB_RESERVED_3: `model_fault(reserved_db_state)` (R213). -/
def execDbReserved3 (_s : State) : Result := .fault .reservedDbState

/-- The debouncer's operation, selected by `db_state` (R206, 30_encoding.md R107). -/
def debouncerOp (s : State) : Result :=
  match s.touch.dbState.toNat with
  | 0 => execDbIdle s
  | 1 => execDbTouching s
  | 2 => execDbHoldoff s
  | _ => execDbReserved3 s

/-- PH_DEBOUNCE (R206, 45_tick_dispatcher.md R300). -/
def execPhDebounce (s : State) : Result := andThen (debouncerOp s) fun t => .next (setPhase t 0)

/-! ## The sense timeout (R212) -/

/-- A request cycle without an ack: nothing without a timeout; with one, the count, and `expire` on the request's last
cycle. The flag and the cleared count are written before `expire` runs (R212). -/
def senseTimeoutOp (s : State) (expire : State → State) : State :=
  match s.params.senseTimeoutCyc with
  | none => s
  | some t =>
    if s.touch.senseTmr.toNat = t - 1 then
      expire { setSenseTimeout s with touch := { (setSenseTimeout s).touch with senseTmr := 0 } }
    else { s with touch := { s.touch with senseTmr := BitVec.ofNat 20 (s.touch.senseTmr.toNat + 1) } }

/-! ## Capturing a reading (R202) -/

/-- The reading is taken and DEBOUNCE follows (R202). -/
def captureReading (raw : Half) (s : State) : State :=
  { s with
    phase := 7
    touch := { s.touch with senseVal := calibrated raw s.touch.baseline, senseTmr := 0 } }

/-- The request is abandoned: the reading counts as no touch (R212). -/
def abandonReading (s : State) : State :=
  { s with
    phase := 7
    touch := { s.touch with senseVal := 0 } }

/-- PH_SENSE_WAIT (R202, R212, 45_tick_dispatcher.md R299). -/
def execPhSenseWait (s : State) : Result :=
  if inAck (currentIn s) then .next (captureReading (inData (currentIn s)) s)
  else .next (senseTimeoutOp s abandonReading)

/-! ## Calibration (R203-R205) -/

/-- The ack branch of CAL_WAIT with a raw reading (R203). -/
def calibrationReading (raw : Half) (s : State) : State :=
  if s.touch.calCnt.toNat + 1 = s.params.calSamples then
    { s with
      phase := 10
      touch := { s.touch with
        calSum := BitVec.ofNat 20 (s.touch.calSum.toNat + raw.toNat)
        calCnt := BitVec.ofNat 4 (s.touch.calCnt.toNat + 1)
        senseTmr := 0 } }
  else
    { s with
      phase := 9
      touch := { s.touch with
        calSum := BitVec.ofNat 20 (s.touch.calSum.toNat + raw.toNat)
        calCnt := BitVec.ofNat 4 (s.touch.calCnt.toNat + 1)
        senseTmr := 0
        calTimer := BitVec.ofNat 20 (s.params.calGapCyc - 1) } }

/-- PH_CAL_WAIT (R203, R212): a request that times out counts as a raw reading of 0. -/
def execPhCalWait (s : State) : Result :=
  if inAck (currentIn s) then .next (calibrationReading (inData (currentIn s)) s)
  else .next (senseTimeoutOp s (calibrationReading 0#16))

/-- PH_CAL_GAP (R204). -/
def execPhCalGap (s : State) : Result :=
  if s.touch.calTimer = 0 then .next (setPhase s 8)
  else .next { s with touch := { s.touch with calTimer := s.touch.calTimer - 1 } }

/-- PH_CAL_DONE (R205). -/
def execPhCalDone (s : State) : Result :=
  .next { s with
    phase := 0
    touch := { s.touch with baseline := average s.params s.touch.calSum } }

end Sys2Proof.Machine
end

