-- ==== Sys2Proof/Machine/Serializer.lean ====
section
/-! DEFINITION. The one-wire LED serializer (41_light_transmitter.md): the meanings of the wire symbols BIT0, BIT1, LATCH and of
the rows TX_IDLE, TX_HIGH, TX_LOW, TX_LATCH, the load TX_LOAD, and the serializer's operation of a cycle. -/

namespace Sys2Proof.Machine

/-- BIT0: the serializer begins a 0-symbol: the line goes high for `T0H_CYC` cycles (R171, R173-R175; DEDUCED, log 5). -/
def execBit0 (s : State) : Result :=
  .next { s with tx := { s.tx with phase := 1, cnt := s.params.t0h - 1 } }

/-- BIT1: the serializer begins a 1-symbol: the line goes high for `T1H_CYC` cycles (R171, R173-R175; DEDUCED, log 5). -/
def execBit1 (s : State) : Result :=
  .next { s with tx := { s.tx with phase := 1, cnt := s.params.t1h - 1 } }

/-- LATCH: the serializer begins the latch: the line stays low for `LATCH_CYC` cycles (R175, R176; DEDUCED, log 5). -/
def execLatch (s : State) : Result :=
  .next { s with tx := { s.tx with phase := 3, cnt := s.params.latchCyc - 1 } }

/-- The serializer begins the symbol of a bit value. -/
def beginSymbol (b : Bool) (s : State) : Result := if b then execBit1 s else execBit0 s

/-- TX_LOAD (R173): the buffer is copied whole and its first symbol begins. It needs an idle serializer. -/
def txLoad (s : State) : Result :=
  if txIsIdle s then
    beginSymbol (frameBit (packFrame s) 0) { s with tx := { s.tx with sh := packFrame s, bit := 0 } }
  else .fault .invariant

/-- TX_IDLE: the serializer writes nothing (R177). -/
def execTxIdle (s : State) : Result := .next s

/-- TX_HIGH (R174). A `tx_bit` past 47 breaks 10_state.md R45. -/
def execTxHigh (s : State) : Result :=
  if s.tx.bit.toNat ≤ 47 then
    if s.tx.cnt = 0 then
      .next { s with tx := { s.tx with
        phase := 2, cnt := lowCycles s.params (frameBit s.tx.sh s.tx.bit.toNat) - 1 } }
    else .next { s with tx := { s.tx with cnt := s.tx.cnt - 1 } }
  else .fault .invariant

/-- TX_LOW (R175). A `tx_bit` past 47 breaks 10_state.md R45. -/
def execTxLow (s : State) : Result :=
  if s.tx.bit.toNat ≤ 47 then
    if s.tx.cnt = 0 then
      if s.tx.bit.toNat = 47 then execLatch s
      else
        beginSymbol (frameBit s.tx.sh (s.tx.bit.toNat + 1))
          { s with tx := { s.tx with bit := BitVec.ofNat 6 (s.tx.bit.toNat + 1) } }
    else .next { s with tx := { s.tx with cnt := s.tx.cnt - 1 } }
  else .fault .invariant

/-- TX_LATCH (R176). -/
def execTxLatch (s : State) : Result :=
  if s.tx.cnt = 0 then .next { s with tx := { s.tx with phase := 0 } }
  else .next { s with tx := { s.tx with cnt := s.tx.cnt - 1 } }

/-- The serializer's operation of a cycle, selected by `tx_phase` (R170, 30_encoding.md R106). -/
def serializerOp (s : State) : Result :=
  match s.tx.phase.toNat with
  | 0 => execTxIdle s
  | 1 => execTxHigh s
  | 2 => execTxLow s
  | _ => execTxLatch s

end Sys2Proof.Machine
end

