-- ==== Sys2Proof/Machine/Dispatcher.lean ====
section
/-! DEFINITION. The tick dispatcher (45_tick_dispatcher.md): the meanings of the phase rows it performs itself, of the reserved
phase rows, and the dispatcher's operation of a cycle. -/

namespace Sys2Proof.Machine

/-- PH_IDLE: a tick is accepted (R291). -/
def execPhIdle (s : State) : Result := if inTick (currentIn s) then .next (setPhase s 1) else .next s

/-- PH_TX_START: TX_LOAD, then TX_WAIT (R295). -/
def execPhTxStart (s : State) : Result := andThen (txLoad s) fun t => .next (setPhase t 4)

/-- PH_TX_WAIT: FRAME_INC follows once the serializer is idle, latch included (R296). -/
def execPhTxWait (s : State) : Result := if txIsIdle s then .next (setPhase s 5) else .next s

/-- PH_FRAME_INC: the frame counter wraps at 256, and sensing is skipped in HOLDOFF (R297, R298). -/
def execPhFrameInc (s : State) : Result :=
  .next { s with
    frame := BitVec.ofNat 8 (s.frame.toNat + 1)
    phase := if s.touch.dbState = 2 then 7 else 6 }

/-- PH_RESERVED_11: `model_fault(reserved_phase)` (30_encoding.md R105). -/
def execPhReserved11 (_s : State) : Result := .fault .reservedPhase

/-- PH_RESERVED_12: `model_fault(reserved_phase)` (30_encoding.md R105). -/
def execPhReserved12 (_s : State) : Result := .fault .reservedPhase

/-- PH_RESERVED_13: `model_fault(reserved_phase)` (30_encoding.md R105). -/
def execPhReserved13 (_s : State) : Result := .fault .reservedPhase

/-- PH_RESERVED_14: `model_fault(reserved_phase)` (30_encoding.md R105). -/
def execPhReserved14 (_s : State) : Result := .fault .reservedPhase

/-- PH_RESERVED_15: `model_fault(reserved_phase)` (30_encoding.md R105). -/
def execPhReserved15 (_s : State) : Result := .fault .reservedPhase

/-- The dispatcher's operation of a cycle, selected by `phase` (30_encoding.md R103-R105). -/
def dispatcherOp (s : State) : Result :=
  match s.phase.toNat with
  | 0 => execPhIdle s
  | 1 => execPhSndStep s
  | 2 => execPhRender s
  | 3 => execPhTxStart s
  | 4 => execPhTxWait s
  | 5 => execPhFrameInc s
  | 6 => execPhSenseWait s
  | 7 => execPhDebounce s
  | 8 => execPhCalWait s
  | 9 => execPhCalGap s
  | 10 => execPhCalDone s
  | 11 => execPhReserved11 s
  | 12 => execPhReserved12 s
  | 13 => execPhReserved13 s
  | 14 => execPhReserved14 s
  | _ => execPhReserved15 s

end Sys2Proof.Machine
end

