-- ==== Sys2Proof/Machine/Cycle.lean ====
section
/-! DEFINITION. One clock cycle (10_state.md R30): the checks a model makes before it, the dispatcher's and the serializer's
operations side by side, and the meanings of the input rows RESET, TICK, SENSE_ACK and NOP (30_encoding.md R102). The rows of the
other formats are operations inside a cycle; exec performs such a row alone (DESIGN CHOICE, log 4). -/

namespace Sys2Proof.Machine

/-- A cycle runs only under a legal record (00_scope.md R7) and from a state the hardware can be in; any other state stops
with the reason of 60_exceptions.md R326 (DEDUCED, log 9, DEDUCED, log 10). -/
def admitted (s : State) (r : Result) : Result :=
  if s.params.legal then
    if 11 ≤ s.phase.toNat then .fault .reservedPhase
    else if s.phase = 7#4 ∧ s.touch.dbState = 3#2 then .fault .reservedDbState
    else if s.invariant then r
    else .fault .invariant
  else .refused .illegalParameters

/-- The writes of a cycle that started in `s`: the dispatcher's (`t`), and the serializer's (`u`) unless it is idle, when it
writes nothing and only a load of the dispatcher's can write `tx_*` (10_state.md R45, 60_exceptions.md R327). -/
def commitCycle (s t u : State) : State := if txIsIdle s then t else { t with tx := u.tx }

/-- Both operations of a cycle read the state the cycle starts with (00_scope.md R11); their writes take effect together. -/
def bothOps (s : State) : Result :=
  andThen (dispatcherOp s) fun t => andThen (serializerOp s) fun u => .next (commitCycle s t u)

/-- The cycle with an input vector that does not reset: the phase's rule and the serializer's rule (45_tick_dispatcher.md R290,
60_exceptions.md R327); the vector is then consumed. -/
def runCycle (v : InVec) (s : State) : Result :=
  admitted s (andThen (bothOps (driveInput s v)) fun t => .next (popInput t))

/-- RESET: the next state is the reset state, whatever the state, the phase and the other inputs (70_reset_and_hazards.md R350,
60_exceptions.md R327). The record is unchanged, and a record that breaks a constraint is refused (00_scope.md R7). -/
def execReset (_rest : BitVec 18) (s : State) : Result :=
  if s.params.legal then .next (popInput (resetState s)) else .refused .illegalParameters

/-- A tick that is not accepted sets `tick_overrun` while a tick is being processed, phases 1-7; in phases 8-10 it sets nothing
(45_tick_dispatcher.md R292). -/
def noteOverrun (s t : State) : State := if busy s then setTickOverrun t else t

/-- TICK: accepted in IDLE; otherwise dropped, with the flag in phases 1-7. The phase's operation runs as normal, and a
SENSE_ACK in the same vector is decoded by its own rule (45_tick_dispatcher.md R291, R292, 30_encoding.md R102). -/
def execTick (ack : Bool) (data : Half) (s : State) : Result :=
  andThen (runCycle (inputVector false true ack data) s) fun t => .next (noteOverrun s t)

/-- SENSE_ACK: accepted in SENSE_WAIT and CAL_WAIT, ignored in every other phase (42_touch_debouncer.md R201). -/
def execSenseAck (data : Half) (s : State) : Result := runCycle (inputVector false false true data) s

/-- NOP: no event; the cycle runs the current phase's rule (45_tick_dispatcher.md R290). -/
def execNop (data : Half) (s : State) : Result := runCycle (inputVector false false false data) s

end Sys2Proof.Machine
end

