-- ==== Sys2Proof/Machine/Dispatch.lean ====
section
/-! DEFINITION. The meaning of every instruction: one arm per row of spec/opcode_table.json. -/

namespace Sys2Proof.Machine

def exec (i : Instr) (s : State) : Host.Outcome State Fault Refusal :=
  match i with
  | .reset rest => Sys2Proof.Machine.execReset rest s
  | .tick ack data => Sys2Proof.Machine.execTick ack data s
  | .senseAck data => Sys2Proof.Machine.execSenseAck data s
  | .nop data => Sys2Proof.Machine.execNop data s
  | .phIdle => Sys2Proof.Machine.execPhIdle s
  | .phSndStep => Sys2Proof.Machine.execPhSndStep s
  | .phRender => Sys2Proof.Machine.execPhRender s
  | .phTxStart => Sys2Proof.Machine.execPhTxStart s
  | .phTxWait => Sys2Proof.Machine.execPhTxWait s
  | .phFrameInc => Sys2Proof.Machine.execPhFrameInc s
  | .phSenseWait => Sys2Proof.Machine.execPhSenseWait s
  | .phDebounce => Sys2Proof.Machine.execPhDebounce s
  | .phCalWait => Sys2Proof.Machine.execPhCalWait s
  | .phCalGap => Sys2Proof.Machine.execPhCalGap s
  | .phCalDone => Sys2Proof.Machine.execPhCalDone s
  | .phReserved11 => Sys2Proof.Machine.execPhReserved11 s
  | .phReserved12 => Sys2Proof.Machine.execPhReserved12 s
  | .phReserved13 => Sys2Proof.Machine.execPhReserved13 s
  | .phReserved14 => Sys2Proof.Machine.execPhReserved14 s
  | .phReserved15 => Sys2Proof.Machine.execPhReserved15 s
  | .txIdle => Sys2Proof.Machine.execTxIdle s
  | .txHigh => Sys2Proof.Machine.execTxHigh s
  | .txLow => Sys2Proof.Machine.execTxLow s
  | .txLatch => Sys2Proof.Machine.execTxLatch s
  | .dbIdle => Sys2Proof.Machine.execDbIdle s
  | .dbTouching => Sys2Proof.Machine.execDbTouching s
  | .dbHoldoff => Sys2Proof.Machine.execDbHoldoff s
  | .dbReserved3 => Sys2Proof.Machine.execDbReserved3 s
  | .volOff => Sys2Proof.Machine.execVolOff s
  | .volSoft => Sys2Proof.Machine.execVolSoft s
  | .volLoud => Sys2Proof.Machine.execVolLoud s
  | .volReserved3 => Sys2Proof.Machine.execVolReserved3 s
  | .sentinel freq glide vol reserved => Sys2Proof.Machine.execSentinel freq glide vol reserved s
  | .stepEntry freq dur glide vol reserved => Sys2Proof.Machine.execStepEntry freq dur glide vol reserved s
  | .bit0 => Sys2Proof.Machine.execBit0 s
  | .bit1 => Sys2Proof.Machine.execBit1 s
  | .latch => Sys2Proof.Machine.execLatch s

end Sys2Proof.Machine
end

