-- ==== Sys2Proof/Machine/Fetch.lean ====
section
/-! DEFINITION. What a cycle fetches, and how a word of any format is placed so that the very next cycle decodes and performs it
(DESIGN CHOICE, log 7). The block fetches no instructions from a memory (10_state.md R34): a cycle samples its input vector, and the code
registers `phase`, `tx_phase`, `db_state` and the ROM entry at the sound pointer select its operations. -/

namespace Sys2Proof.Machine

/-- The instruction a cycle starts from: its input vector, decoded (30_encoding.md R102). -/
def fetch (s : State) : Instr := decodeIn (currentIn s)

/-- The current cycle's input vector made a NOP. -/
def quietInput (s : State) : State :=
  match s.inputs with
  | [] => s
  | _ :: rest => { s with inputs := 0#19 :: rest }

/-- A phase code: the dispatcher performs it in the next cycle. The serializer is idle in every phase but TX_WAIT (10_state.md
R45). -/
def placePhase (c : PhaseCode) (s : State) : State :=
  if c = 4#4 then { quietInput s with phase := c }
  else { quietInput s with phase := c, tx := { s.tx with phase := 0 } }

/-- A serializer phase: a busy serializer runs in TX_WAIT (10_state.md R45). -/
def placeTxPhase (c : Code2) (s : State) : State :=
  { quietInput s with phase := if c = 0#2 then 0 else 4, tx := { s.tx with phase := c } }

/-- A debouncer state, performed by the next DEBOUNCE, with counters that R45 allows in it (10_state.md R45). -/
def placeDbState (c : Code2) (s : State) : State :=
  { placePhase 7 s with touch := { s.touch with
      dbState := c
      dur := if c = 1#2 then s.touch.dur else 0
      hold := if c = 2#2 then BitVec.ofNat 8 s.params.holdoffTicks else 0 } }

/-- A ROM entry, put at index 1 and entered by the next sound step: the step at index 0 is over. -/
def placeEntry (e : Entry) (s : State) : State :=
  { placePhase 1 s with
    params := { s.params with sndRom := s.params.sndRom.set 1 e }
    snd := { s.snd with active := true, ptr := 0, cnt := 0 } }

/-- A data symbol, begun by the next cycle: bit 0 of the frame is over and bit 1 has the given value. -/
def placeSymbol (b : Bool) (s : State) : State :=
  { quietInput s with
    phase := 4
    tx := { s.tx with phase := 2, cnt := 0, bit := 0, sh := if b then 1#48 <<< 46 else 0#48 } }

/-- The latch, begun by the next cycle: bit 47 of the frame is over. -/
def placeLatch (s : State) : State :=
  { quietInput s with
    phase := 4
    tx := { s.tx with phase := 2, cnt := 0, bit := 47 } }

/-- The state in which the next cycle decodes and performs a word of a format. -/
def placeWord (f : Format) (w : Nat) (s : State) : State :=
  match f with
  | .input => driveInput s (BitVec.ofNat 19 w)
  | .ph => placePhase (BitVec.ofNat 4 w) s
  | .txp => placeTxPhase (BitVec.ofNat 2 w) s
  | .db => placeDbState (BitVec.ofNat 2 w) s
  | .vol => placeEntry (entryOf 0#16 1#16 0#16 (BitVec.ofNat 2 w) 0#14) s
  | .snd => placeEntry (BitVec.ofNat 64 w) s
  | .sym => placeSymbol (w == bit1Wave) s
  | .symLatch => placeLatch s

/-- The same for a word of a number of bits, as the host numbers them (Decode.formatOfBits). -/
def placeTableWord (nbits w : Nat) (s : State) : State :=
  match formatOfBits nbits with
  | none => s
  | some f => placeWord f w s

end Sys2Proof.Machine
end

