-- ==== Sys2Proof/Machine/Step.lean ====
section
/-! DEFINITION. One step of the machine: one clock cycle (10_state.md R30). -/

namespace Sys2Proof.Machine

/-- One clock cycle: the input vector is decoded and performed. -/
def step (s : State) : Host.Outcome State Fault Refusal := exec (fetch s) s

/-- `s` with an instruction word placed so that the very next step performs it (DESIGN CHOICE, log 7). -/
def State.withFetchWord (s : State) (nbits w : Nat) : State := placeTableWord nbits w s

end Sys2Proof.Machine
end

