-- ==== Sys2Proof/Machine/Assembler.lean ====
section
/-! DEFINITION. The assembler syntax of a sound program (30_encoding.md R116): characters to tokens, tokens to steps, steps to ROM
entries, and the placing of a program in the ROM. -/

namespace Sys2Proof.Machine

/-- A step as written: `(FREQ,DUR,VOL,GLIDE)`. -/
structure SourceStep where
  freq : Nat
  dur : Nat
  vol : Code2
  glide : Int
deriving DecidableEq, Repr

/-- The pseudo-step `rest(DUR)`, `(0,DUR,off,0)` (R116). -/
def restStep (dur : Nat) : SourceStep := ⟨0, dur, 0, 0⟩

/-- The ranges of R116. -/
def sourceStepLegal (x : SourceStep) : Bool :=
  decide (x.freq ≤ 65535) && inRange 1 65535 x.dur && x.vol != 3#2
    && decide (-32768 ≤ x.glide) && decide (x.glide ≤ 32767)

/-- `FREQ | (DUR << 16) | ((GLIDE mod 2^16) << 32) | (VOL << 48)` (R116). -/
def assembleStep (x : SourceStep) : Entry :=
  BitVec.ofNat 64
    (x.freq ||| (x.dur <<< 16) ||| ((x.glide % 65536).toNat <<< 32) ||| (x.vol.toNat <<< 48))

/-- A program's entries, the sentinel last; none where a step breaks a range (R116). -/
def assembleSteps (xs : List SourceStep) : Option (List Entry) :=
  if xs.all sourceStepLegal then some (xs.map assembleStep ++ [0#64]) else none

/-- Tokens of the program syntax. -/
inductive Token where
  | openBracket
  | closeBracket
  | openParen
  | closeParen
  | comma
  | plus
  | minus
  | number (n : Nat)
  | volume (c : Code2)
  | sentinelWord
  | restWord
deriving DecidableEq, Repr

/-- What the characters read so far begin. -/
inductive Partial where
  | nothing
  | digits (n : Nat)
  | letters (w : List Char)
deriving DecidableEq, Repr

/-- The token a word stands for. -/
def wordToken (w : List Char) : Option Token :=
  if w = ['o', 'f', 'f'] then some (.volume 0)
  else if w = ['s', 'o', 'f', 't'] then some (.volume 1)
  else if w = ['l', 'o', 'u', 'd'] then some (.volume 2)
  else if w = ['r', 'e', 's', 't'] then some .restWord
  else if w = ['s', 'e', 'n', 't', 'i', 'n', 'e', 'l'] then some .sentinelWord
  else none

/-- The token that ends where the characters read so far end. -/
def flushPartial (p : Partial) (rest : List Token) : Option (List Token) :=
  match p with
  | .nothing => some rest
  | .digits n => some (.number n :: rest)
  | .letters w => (wordToken w).map (· :: rest)

/-- The token of a punctuation character. -/
def punctuation (c : Char) : Option Token :=
  if c = '[' then some .openBracket
  else if c = ']' then some .closeBracket
  else if c = '(' then some .openParen
  else if c = ')' then some .closeParen
  else if c = ',' then some .comma
  else if c = '+' then some .plus
  else if c = '-' then some .minus
  else none

/-- The tokens of a text (DESIGN CHOICE, log 16). -/
def lexFrom : List Char → Partial → Option (List Token)
  | [], p => flushPartial p []
  | c :: cs, p =>
    if c.isDigit then
      match p with
      | .nothing => lexFrom cs (.digits (c.toNat - 48))
      | .digits n => lexFrom cs (.digits (10 * n + (c.toNat - 48)))
      | .letters _ => none
    else if c.isLower then
      match p with
      | .nothing => lexFrom cs (.letters [c])
      | .letters w => lexFrom cs (.letters (w ++ [c]))
      | .digits _ => none
    else
      match punctuation c, lexFrom cs .nothing with
      | some t, some ts => flushPartial p (t :: ts)
      | _, _ => none

/-- The steps of a program after its opening bracket, each with the comma that follows it (R116). -/
def parseSteps : List Token → Option (List SourceStep)
  | [.sentinelWord, .closeBracket] => some []
  | .openParen :: .number f :: .comma :: .number d :: .comma :: .volume v :: .comma :: .number g :: .closeParen
      :: .comma :: rest => (parseSteps rest).map (⟨f, d, v, g⟩ :: ·)
  | .openParen :: .number f :: .comma :: .number d :: .comma :: .volume v :: .comma :: .plus :: .number g
      :: .closeParen :: .comma :: rest => (parseSteps rest).map (⟨f, d, v, g⟩ :: ·)
  | .openParen :: .number f :: .comma :: .number d :: .comma :: .volume v :: .comma :: .minus :: .number g
      :: .closeParen :: .comma :: rest => (parseSteps rest).map (⟨f, d, v, -g⟩ :: ·)
  | .restWord :: .openParen :: .number d :: .closeParen :: .comma :: rest =>
      (parseSteps rest).map (restStep d :: ·)
  | _ => none

/-- The entries of a program's text (R116). -/
def assemble (text : List Char) : Option (List Entry) :=
  match lexFrom text .nothing with
  | some (.openBracket :: ts) => (parseSteps ts).bind assembleSteps
  | _ => none

/-- The ROM with a program at consecutive indices from `base` (R116); none where it does not fit. -/
def placeProgram (rom : List Entry) (base : Nat) (entries : List Entry) : Option (List Entry) :=
  if base + entries.length ≤ rom.length then
    some (rom.take base ++ entries ++ rom.drop (base + entries.length))
  else none

end Sys2Proof.Machine
end

