-- ==== Sys2Proof/Safety.lean ====
section
/-! DEFINITION. What counts as a safe state and a safe step: the facts that hold in every cycle of a run from reset, from which
no model fault and no refusal can come (60_exceptions.md R326). -/

namespace Sys2Proof.Machine

/-- The step answers a next state: no fault, no refusal. -/
def Runs (r : Result) : Prop := ∃ t, r = .next t

/-- From a program's base up to the pointer every ROM entry is a step (44_sound_sequencer.md R263). -/
def insideProgram (p : Params) (ptr base : Nat) : Bool :=
  decide (base ≤ ptr) && ((p.sndRom.drop base).take (ptr - base + 1)).all (fun e => !isSentinel e)

/-- The sound pointer is an index of the ROM (44_sound_sequencer.md R270), and while a program is active it stands inside some
program. -/
def soundSafe (s : State) : Bool :=
  decide (s.snd.ptr.toNat < s.params.sndRomDepth)
    && (!s.snd.active || s.params.programBase.any (insideProgram s.params s.snd.ptr.toNat))

/-- During calibration the count and the sum are those of the readings taken: at most nine before the last one, ten at
CAL_DONE (42_touch_debouncer.md R203). -/
def calibrationSafe (s : State) : Bool :=
  decide (s.touch.calSum.toNat ≤ s.touch.calCnt.toNat * 65535)
    && (if s.phase.toNat = 8 ∨ s.phase.toNat = 9 then decide (s.touch.calCnt.toNat ≤ 9)
        else s.touch.calCnt == 10#4)

/-- Every fact a run from reset keeps: a legal record (00_scope.md R7), the invariants of 10_state.md R45, the buffer's canonical
form, a safe sound pointer and a safe calibration count. -/
def State.good (s : State) : Bool :=
  s.params.legal && s.invariant && Memory.wf s.buf && soundSafe s && calibrationSafe s

/-! ## Runs and what the lights show, in the terms the statements use -/

/-- The buffer shows the colours of a left and a right hue, taken modulo 256, at full saturation and a value, in the order
green, red, blue of the default record (43_animation_engine.md R235). -/
def State.showsHues (s : State) (left right : Nat) (value : Byte) : Prop :=
  let cl := hsvToRgb s.params ⟨BitVec.ofNat 8 left, 255, value⟩
  let cr := hsvToRgb s.params ⟨BitVec.ofNat 8 right, 255, value⟩
  Memory.read s.buf 0 = cl.g ∧ Memory.read s.buf 1 = cl.r ∧ Memory.read s.buf 2 = cl.b ∧
    Memory.read s.buf 3 = cr.g ∧ Memory.read s.buf 4 = cr.r ∧ Memory.read s.buf 5 = cr.b

/-- `n` steps, stopping at the first stop. -/
def runSteps : Nat → State → Result
  | 0, s => .next s
  | n + 1, s => andThen (step s) (runSteps n)

/-- The same instruction performed `n` times. -/
def execTimes (i : Instr) : Nat → State → Result
  | 0, s => .next s
  | n + 1, s => andThen (exec i s) (execTimes i n)

/-- The serializer's row of `n` cycles, each selected by `tx_phase`. -/
def serializerRun : Nat → State → Result
  | 0, s => .next s
  | n + 1, s => andThen (exec (decodeTxp s.tx.phase) s) (serializerRun n)

/-- The sound registers once a program with base `i` and first entry `e` has been started: silent where `e` is a sentinel, else
`e` is the first step entered (44_sound_sequencer.md R266, R267, R271). -/
def soundAfterStart (s : State) (i : Nat) (e : Entry) : Sound :=
  if isSentinel e then
    { s.snd with active := false, ptr := BitVec.ofNat 8 i, steps := 0, toneFreq := 0, toneVol := 0 }
  else
    ⟨true, BitVec.ofNat 8 i, 1, BitVec.ofNat 16 ((entryDur e).toNat / s.params.tickMs), entryFreq e, entryFreq e,
      entryVol e, s.snd.err⟩

/-- The sum over the first `k` bits of a frame of `TH + TL`: `start(k)` of 41_light_transmitter.md R178, counted from the first
cycle after the load. -/
def symbolStart (p : Params) (sh : FrameWord) : Nat → Nat
  | 0 => 0
  | k + 1 => symbolStart p sh k + (highCycles p (frameBit sh k) + lowCycles p (frameBit sh k))

/-- The cycles a frame and its latch take: `D` of 45_tick_dispatcher.md R302. -/
def frameCycles (p : Params) (sh : FrameWord) : Nat := symbolStart p sh 48 + p.latchCyc

/-- The inputs of a calibration whose every request is answered in its first cycle: each reading but the last is followed by
the gap, the last by the cycle of CAL_DONE (70_reset_and_hazards.md R352). -/
def bootInputs (gap : Nat) : List Half → List InVec
  | [] => []
  | [r] => [inputVector false false true r, 0]
  | r :: rs => inputVector false false true r :: (List.replicate gap 0 ++ bootInputs gap rs)

end Sys2Proof.Machine
end

