-- ==== Sys2Proof/Certificates/Slice0/Obligations.lean ====
section
/-! DEFINITION. The statements about FURBADGE_CORE for the provers. -/

open Sys2Proof Sys2Proof.Machine

/-! ## Encoding -/

/-- Decoding the encoder's word of a well-formed instruction, in its format, gives the instruction back
(30_encoding.md R101-R115). -/
def Obligations.DecodeOfEncodeIsTheInstruction : Prop :=
  ∀ i : Instr, i.WellFormed → decode i.format (encode i) = .ok i

/-- A word that decodes is the encoder's word of what it decodes to: no bit of a word is dropped. -/
def Obligations.EncodeOfDecodeIsTheWord : Prop :=
  ∀ (f : Format) (w : Nat) (i : Instr), decode f w = .ok i → i.format = f ∧ encode i = w

/-- The input vector is decoded in the priority RESET, TICK, SENSE_ACK, NOP, and a TICK keeps the ack and the reading that
hold beside it (30_encoding.md R101, R102). -/
def Obligations.InputEventsByPriority : Prop :=
  ∀ v : InVec, decodeIn v =
    if v.getLsbD 18 then .reset (BitVec.ofNat 18 v.toNat)
    else if v.getLsbD 17 then .tick (v.getLsbD 16) (BitVec.ofNat 16 v.toNat)
    else if v.getLsbD 16 then .senseAck (BitVec.ofNat 16 v.toNat)
    else .nop (BitVec.ofNat 16 v.toNat)

/-- A sound ROM entry is a SENTINEL exactly when its masked bits are 0, whatever its other fields, and a STEP otherwise, with
its fields at their places (30_encoding.md R110, R111). -/
def Obligations.SoundEntriesByMask : Prop :=
  (∀ e : Entry, decodeSnd e =
    if e &&& 0x00000000FFFF0000#64 = 0#64 then
      .sentinel (BitVec.ofNat 16 e.toNat) (BitVec.ofNat 16 (e.toNat / 2 ^ 32)) (BitVec.ofNat 2 (e.toNat / 2 ^ 48))
        (BitVec.ofNat 14 (e.toNat / 2 ^ 50))
    else
      .stepEntry (BitVec.ofNat 16 e.toNat) (BitVec.ofNat 16 (e.toNat / 2 ^ 16)) (BitVec.ofNat 16 (e.toNat / 2 ^ 32))
        (BitVec.ofNat 2 (e.toNat / 2 ^ 48)) (BitVec.ofNat 14 (e.toNat / 2 ^ 50))) ∧
  ∀ (s : State) (f g : Half) (v : Code2) (r : BitVec 14),
    exec (.sentinel f g v r) s = exec (.sentinel 0 0 0 0) s

/-- Words written out in spec/95_test_vectors.md EN-1, EN-2 and in the phase table decode to what they stand for. -/
def Obligations.WrittenWordsDecode : Prop :=
  decodeTableWord 24 0x40000 = some (.reset 0) ∧
  decodeTableWord 24 0x7FFFF = some (.reset 0x3FFFF) ∧
  decodeTableWord 24 0x20000 = some (.tick false 0) ∧
  decodeTableWord 24 0x10096 = some (.senseAck 150) ∧
  decodeTableWord 24 0x30064 = some (.tick true 100) ∧
  decodeTableWord 8 0x7 = some .phDebounce ∧
  decodeTableWord 64 0x0002FFD800C803E8 = some (.stepEntry 1000 200 (-40) 2 0) ∧
  decodeTableWord 64 0x0001000000000370 = some (.sentinel 0x370 0 1 0) ∧
  decodeTableWord 32 0b1111111100000000000000000 = some .bit0

/-- A legal source step assembles to a well-formed STEP entry with the numbers that were written (30_encoding.md R116). -/
def Obligations.AssembledStepDecodes : Prop :=
  ∀ x : SourceStep, sourceStepLegal x = true →
    ∃ g : Half, g.toInt = x.glide ∧
      decodeSnd (assembleStep x) = .stepEntry (BitVec.ofNat 16 x.freq) (BitVec.ofNat 16 x.dur) g x.vol 0 ∧
      (decodeSnd (assembleStep x)).WellFormed

/-! ## The step and the cycle -/

/-- A step performs the instruction its input vector decodes to (10_state.md R30, 30_encoding.md R102). -/
def Obligations.StepRunsTheDecodedInput : Prop :=
  ∀ (s : State) (i : Instr), decode .input (currentIn s).toNat = .ok i → step s = exec i s

/-- A cycle without reset or tick performs the row that `phase` selects and the row that `tx_phase` selects, both on the
state the cycle starts with; the serializer's writes are those of `tx_*` unless it is idle; the input vector is consumed
(10_state.md R30, 60_exceptions.md R327). -/
def Obligations.CycleRunsPhaseAndSerializer : Prop :=
  ∀ (s a b : State) (ack : Bool) (d : Half), s.params.legal = true → s.invariant = true →
    exec (decodePh s.phase) (driveInput s (inputVector false false ack d)) = .next a →
    exec (decodeTxp s.tx.phase) (driveInput s (inputVector false false ack d)) = .next b →
    exec (if ack then .senseAck d else .nop d) s =
      .next { a with inputs := s.inputs.tail, tx := if s.tx.phase = 0 then a.tx else b.tx }

/-- A cycle with `rst` = 1 gives the reset state from any state, and the outputs of the next cycle are those of R350
(70_reset_and_hazards.md R350). -/
def Obligations.ResetGivesTheResetState : Prop :=
  ∀ (s : State) (rest : BitVec 18), s.params.legal = true → ∃ t, exec (.reset rest) s = .next t ∧
    t.params = s.params ∧ t.inputs = s.inputs.tail ∧ t.phase = 8 ∧ t.mode = 0 ∧ t.frame = 0 ∧ t.touched = false ∧
    t.tickOverrun = false ∧ t.touch = ⟨0, 0, 0, 0, 0, 0, 0, 0, 0, false⟩ ∧ (∀ a, Memory.read t.buf a = 0) ∧
    t.snd = ⟨false, 0, 0, 0, 0, 0, 0, false⟩ ∧ t.tx = ⟨0, 0, 0, 0⟩ ∧
    t.outputs = ⟨false, true, 0, 0, false, false, false, false, false, 0, 0, false, 0, false⟩

/-- A record that breaks a constraint is refused by every cycle, and a state that breaks an invariant of R45, with codes
that are not reserved, stops with `invariant` (00_scope.md R7, 60_exceptions.md R326). -/
def Obligations.IllegalRecordsAndBrokenInvariantsStop : Prop :=
  (∀ s : State, s.params.legal = false → step s = .refused .illegalParameters) ∧
  ∀ s : State, s.params.legal = true → inRst (currentIn s) = false → s.phase.toNat ≤ 10 → s.touch.dbState ≠ 3 →
    s.invariant = false → step s = .fault .invariant

/-- A reserved phase code stops every cycle but a reset, its rows stop on every state, and no step writes one
(30_encoding.md R105). -/
def Obligations.ReservedPhasesAreModelFaults : Prop :=
  (∀ s : State, s.params.legal = true → inRst (currentIn s) = false → 11 ≤ s.phase.toNat →
    step s = .fault .reservedPhase) ∧
  (∀ s : State, exec .phReserved11 s = .fault .reservedPhase ∧ exec .phReserved12 s = .fault .reservedPhase ∧
    exec .phReserved13 s = .fault .reservedPhase ∧ exec .phReserved14 s = .fault .reservedPhase ∧
    exec .phReserved15 s = .fault .reservedPhase) ∧
  ∀ s t : State, step s = .next t → t.phase.toNat ≤ 10

/-- The reserved debouncer state stops a DEBOUNCE cycle, its row stops on every state, and no step writes it
(42_touch_debouncer.md R213). -/
def Obligations.ReservedDebouncerStateIsAModelFault : Prop :=
  (∀ s : State, s.params.legal = true → inRst (currentIn s) = false → s.phase = 7 → s.touch.dbState = 3 →
    step s = .fault .reservedDbState) ∧
  (∀ s : State, exec .dbReserved3 s = .fault .reservedDbState) ∧
  (∀ s : State, s.touch.dbState = 3 → exec .phDebounce s = .fault .reservedDbState) ∧
  ∀ s t : State, step s = .next t → t.touch.dbState ≠ 3

/-- The reserved volume is refused by its row and by a STEP that would be entered with it (the model's form of a configuration
error, log 18). The ROM check refuses a record exactly for an entry with the reserved volume or a reserved bit at any index from
a program's base up to, and without, the first sentinel (30_encoding.md R113, 44_sound_sequencer.md R264). -/
def Obligations.ReservedVolumeIsRefused : Prop :=
  (∀ s : State, exec .volReserved3 s = .refused .reservedVolume) ∧
  (∀ (s : State) (f d g : Half) (r : BitVec 14), d ≠ 0 → s.snd.steps.toNat ≠ s.params.sndMaxSteps →
    exec (.stepEntry f d g 3 r) s = .refused .reservedVolume) ∧
  (∀ p : Params, p.romLegal = true ↔ ∀ (b k : Nat) (e : Entry), b ∈ p.programBase → b ≤ k → p.sndRom[k]? = some e →
    (∀ (j : Nat) (e' : Entry), b ≤ j → j ≤ k → p.sndRom[j]? = some e' → entryDur e' ≠ 0) →
    entryVol e ≠ 3 ∧ entryReserved e = 0) ∧
  ∀ p : Params, p.romLegal = false → p.legal = false

/-! ## Invariants -/

/-- Every step leaves a state that keeps every invariant of R45, the serializer's rows write only `tx_*`, and the
dispatcher's rows write none of them but PH_TX_START's, which needs an idle serializer (10_state.md R45). -/
def Obligations.EveryStepKeepsTheInvariants : Prop :=
  (∀ s t : State, step s = .next t →
    t.phase.toNat ≤ 10 ∧ t.touch.dbState ≠ 3 ∧ t.mode.toNat < t.params.modeCount ∧
    t.touch.dur.toNat < t.params.longTouch ∧ (t.touch.dbState ≠ 1 → t.touch.dur = 0) ∧
    t.touch.hold.toNat ≤ t.params.holdoffTicks ∧ (t.touch.dbState ≠ 2 → t.touch.hold = 0) ∧
    (t.touch.dbState = 2 → 1 ≤ t.touch.hold.toNat) ∧ t.tx.bit.toNat ≤ 47 ∧ (t.tx.phase ≠ 0 → t.phase = 4) ∧
    t.snd.toneVol ≠ 3 ∧ t.snd.steps.toNat ≤ t.params.sndMaxSteps) ∧
  (∀ (c : Code2) (s t : State), exec (decodeTxp c) s = .next t → t = { s with tx := t.tx }) ∧
  (∀ (c : PhaseCode) (s t : State), exec (decodePh c) s = .next t → c ≠ 3 → t.tx = s.tx) ∧
  ∀ s t : State, exec .phTxStart s = .next t → s.tx.phase = 0

/-- The state after reset keeps every fact that a run keeps: the legal default record, the invariants of R45, the buffer's
canonical form, a safe sound pointer and a safe calibration count. -/
def Obligations.ResetStateIsGood : Prop := State.reset.good = true

/-- From a good state every input row answers a next state, and that state is good: no model fault and no refusal is
reachable from reset under a legal record (60_exceptions.md R326). -/
def Obligations.GoodStatesRunAndStayGood : Prop :=
  ∀ s : State, s.good = true →
    (∀ d, ∃ t, exec (.nop d) s = .next t ∧ t.good = true) ∧
    (∀ d, ∃ t, exec (.senseAck d) s = .next t ∧ t.good = true) ∧
    (∀ ack d, ∃ t, exec (.tick ack d) s = .next t ∧ t.good = true) ∧
    (∀ rest, ∃ t, exec (.reset rest) s = .next t ∧ t.good = true) ∧
    ∃ t, step s = .next t ∧ t.good = true

/-- Every step keeps the light buffer's canonical form. -/
def Obligations.EveryStepKeepsTheBufferCanonical : Prop :=
  ∀ s t : State, Memory.wf s.buf = true → step s = .next t → Memory.wf t.buf = true

/-! ## Input events -/

/-- A tick in IDLE is accepted: SND_STEP follows, `busy` rises, nothing else changes, and no other phase leads to SND_STEP;
the row PH_IDLE reads the tick alone (45_tick_dispatcher.md R291). -/
def Obligations.TickIsAcceptedInIdleOnly : Prop :=
  (∀ (s : State) (ack : Bool) (d : Half), s.params.legal = true → s.invariant = true → s.phase = 0 →
    exec (.tick ack d) s = .next { s with phase := 1, inputs := s.inputs.tail } ∧ s.outputs.busy = false ∧
    ({ s with phase := 1, inputs := s.inputs.tail } : State).outputs.busy = true) ∧
  (∀ (s t : State), step s = .next t → s.phase ≠ 0 → t.phase ≠ 1) ∧
  ∀ s : State, exec .phIdle s = .next (if (currentIn s).getLsbD 17 then { s with phase := 1 } else s)

/-- A tick outside IDLE is dropped: the cycle is the one without it, with `tick_overrun` set in phases 1-7 and nothing set in
phases 8-10 (45_tick_dispatcher.md R292). -/
def Obligations.TickOutsideIdleIsDropped : Prop :=
  ∀ (s : State) (ack : Bool) (d : Half), s.phase ≠ 0 →
    exec (.tick ack d) s =
      andThen (exec (if ack then .senseAck d else .nop d) s) fun t =>
        .next (if 1 ≤ s.phase.toNat ∧ s.phase.toNat ≤ 7 then { t with tickOverrun := true } else t)

/-- In a quiescent cycle without tick and reset no state changes, and the line, the request and `busy` are low; outside
TX_WAIT the line is low (45_tick_dispatcher.md R303). -/
def Obligations.QuiescentCycleChangesNothing : Prop :=
  (∀ (s : State) (d : Half), s.params.legal = true → s.invariant = true → s.phase = 0 →
    s.tx.phase = 0 ∧
    exec (.nop d) s = .next { s with inputs := s.inputs.tail } ∧
    exec (.senseAck d) s = .next { s with inputs := s.inputs.tail } ∧
    s.outputs.busy = false ∧ s.outputs.ledDout = false ∧ s.outputs.senseReq = false) ∧
  ∀ s : State, s.invariant = true → s.phase ≠ 4 → s.outputs.ledDout = false

/-- `sense_req` is high exactly in SENSE_WAIT and CAL_WAIT; elsewhere an ack changes nothing; an accepted one is consumed in
its cycle and ends the request; the data of a cycle without an ack is not read (42_touch_debouncer.md R201, R202). -/
def Obligations.AckCountsOnlyDuringARequest : Prop :=
  (∀ s : State, s.outputs.senseReq = true ↔ s.phase = 6 ∨ s.phase = 8) ∧
  (∀ (s : State) (d e : Half), s.phase ≠ 6 → s.phase ≠ 8 → exec (.senseAck d) s = exec (.nop e) s) ∧
  (∀ (s : State) (d e : Half), exec (.nop d) s = exec (.nop e) s) ∧
  (∀ (s t : State) (d : Half), s.phase = 6 ∨ s.phase = 8 → exec (.senseAck d) s = .next t → t.outputs.senseReq = false) ∧
  ∀ (s : State) (d : Half), s.params.legal = true → s.invariant = true → s.phase = 6 → ∃ x : Half,
    x.toNat = d.toNat - s.touch.baseline.toNat ∧
    exec (.senseAck d) s = .next { s with
      phase := 7
      inputs := s.inputs.tail
      touch := { s.touch with senseVal := x, senseTmr := 0 } }

/-! ## The dispatcher's own phases -/

/-- FRAME_INC: the frame counter rises by 1 modulo 256; HOLDOFF skips the sense request; nothing else changes
(45_tick_dispatcher.md R297, R298). -/
def Obligations.FrameIncrementAndSenseChoice : Prop :=
  ∀ s : State, ∃ t, exec .phFrameInc s = .next t ∧ t.frame.toNat = (s.frame.toNat + 1) % 256 ∧
    t.phase = (if s.touch.dbState = 2 then 7 else 6) ∧ t = { s with frame := t.frame, phase := t.phase }

/-- TX_WAIT: FRAME_INC follows when the serializer is idle; nothing else changes (45_tick_dispatcher.md R296). -/
def Obligations.TxWaitHoldsUntilTheSerializerIsIdle : Prop :=
  ∀ s : State, exec .phTxWait s = .next (if s.tx.phase = 0 then { s with phase := 5 } else s)

/-- TX_START copies the buffer whole, `buf[0]` first and each byte most significant bit first, and begins the first symbol
(41_light_transmitter.md R172, R173, 45_tick_dispatcher.md R295). A busy serializer in TX_START breaks 10_state.md R45, which is a
model fault (60_exceptions.md R326); that the row alone stops on such a state is the model's choice (log 4). -/
def Obligations.TxStartLoadsTheWholeBuffer : Prop :=
  (∀ s : State, s.tx.phase = 0 → ∃ sh : FrameWord,
    exec .phTxStart s = .next { s with
      phase := 4
      tx := ⟨1, (if (Memory.read s.buf 0).getLsbD 7 then s.params.t1h else s.params.t0h) - 1, 0, sh⟩ } ∧
    ∀ k, k < 48 → sh.getLsbD (47 - k) = (Memory.read s.buf (k / 8)).getLsbD (7 - k % 8)) ∧
  ∀ s : State, s.tx.phase ≠ 0 → exec .phTxStart s = .fault .invariant

/-! ## The serializer and the wire -/

/-- The four serializer rows: the idle one writes nothing; the others count down, and at 0 the high part gives way to the low
part, the low part to the next symbol or after bit 47 to the latch, the latch to idle (41_light_transmitter.md R174-R177). A
`tx_bit` past 47 breaks 10_state.md R45, which is a model fault (60_exceptions.md R326); that the rows TX_HIGH and TX_LOW alone
stop on such a state is the model's choice (log 4). -/
def Obligations.SerializerRowsStep : Prop :=
  (∀ s : State, exec .txIdle s = .next s) ∧
  (∀ s : State, s.tx.bit.toNat ≤ 47 → exec .txHigh s = .next { s with
    tx := if s.tx.cnt = 0 then
        { s.tx with phase := 2, cnt := (if s.tx.sh.getLsbD (47 - s.tx.bit.toNat) then s.params.t1l else s.params.t0l) - 1 }
      else { s.tx with cnt := s.tx.cnt - 1 } }) ∧
  (∀ s : State, s.tx.bit.toNat ≤ 47 → exec .txLow s = .next { s with
    tx := if s.tx.cnt ≠ 0 then { s.tx with cnt := s.tx.cnt - 1 }
      else if s.tx.bit = 47 then { s.tx with phase := 3, cnt := s.params.latchCyc - 1 }
      else { s.tx with
        phase := 1
        bit := s.tx.bit + 1
        cnt := (if s.tx.sh.getLsbD (46 - s.tx.bit.toNat) then s.params.t1h else s.params.t0h) - 1 } }) ∧
  (∀ s : State, exec .txLatch s = .next { s with
    tx := if s.tx.cnt = 0 then { s.tx with phase := 0 } else { s.tx with cnt := s.tx.cnt - 1 } }) ∧
  ∀ s : State, 48 ≤ s.tx.bit.toNat → exec .txHigh s = .fault .invariant ∧ exec .txLow s = .fault .invariant

/-- The wire rows begin their symbol and write nothing but the serializer's phase and count; that a row stands for the start
of its symbol is the model's reading (log 5). -/
def Obligations.WireRowsBeginTheirSymbol : Prop :=
  ∀ s : State,
    exec .bit0 s = .next { s with tx := { s.tx with phase := 1, cnt := s.params.t0h - 1 } } ∧
    exec .bit1 s = .next { s with tx := { s.tx with phase := 1, cnt := s.params.t1h - 1 } } ∧
    exec .latch s = .next { s with tx := { s.tx with phase := 3, cnt := s.params.latchCyc - 1 } }

/-- From the start of a symbol the serializer shows, cycle by cycle, `TH(b)` high and then `TL(b)` low cycles on the line, and
from the start of the latch `LATCH_CYC` low cycles and then idle (30_encoding.md R115, 41_light_transmitter.md R174-R176). -/
def Obligations.SymbolsHaveTheirWaveform : Prop :=
  (∀ (s : State) (b : Bool), s.params.legal = true → s.tx.bit.toNat ≤ 47 →
    s.tx.sh.getLsbD (47 - s.tx.bit.toNat) = b →
    ∃ u, exec (if b then .bit1 else .bit0) s = .next u ∧
      ∀ n, n < (if b then s.params.t1h + s.params.t1l else s.params.t0h + s.params.t0l) →
        ∃ t, serializerRun n u = .next t ∧
          t.outputs.ledDout = decide (n < if b then s.params.t1h else s.params.t0h)) ∧
  ∀ s : State, s.params.legal = true → ∃ u, exec .latch s = .next u ∧
    (∀ n, n < s.params.latchCyc →
      ∃ t, serializerRun n u = .next t ∧ t.outputs.ledDout = false ∧ t.tx.phase = 3) ∧
    ∃ t, serializerRun s.params.latchCyc u = .next t ∧ t.tx.phase = 0

/-- The whole frame on the wire. From a TX_START cycle, with no reset in the inputs, the line is high exactly in the first
`TH` cycles of each of the 48 symbols, the latch follows for `LATCH_CYC` cycles, and the serializer is idle right after it
(41_light_transmitter.md R178). -/
def Obligations.FrameOnTheWire : Prop :=
  ∀ s : State, s.params.legal = true → s.invariant = true → s.phase = 3 → (∀ v ∈ s.inputs, inRst v = false) →
    ∀ n, 1 ≤ n → n ≤ 1 + frameCycles s.params (packFrame s) →
      ∃ t, runSteps n s = .next t ∧
        (t.outputs.ledDout = true ↔ ∃ k, k < 48 ∧ 1 + symbolStart s.params (packFrame s) k ≤ n ∧
          n < 1 + symbolStart s.params (packFrame s) k + highCycles s.params (frameBit (packFrame s) k)) ∧
        (t.tx.phase = 3 ↔ 1 + symbolStart s.params (packFrame s) 48 ≤ n ∧
          n < 1 + frameCycles s.params (packFrame s)) ∧
        (t.tx.phase = 0 ↔ n = 1 + frameCycles s.params (packFrame s))

/-- While the serializer is busy no input but `rst` moves it: every other cycle leaves the whole state as it is but for the
serializer's own step, a dropped tick's flag and the consumed vector; a reset makes it idle and the line low
(41_light_transmitter.md R180). -/
def Obligations.TransmissionIsNotInterrupted : Prop :=
  (∀ (s : State) (v : InVec), s.params.legal = true → s.invariant = true → s.tx.phase ≠ 0 → inRst v = false →
    s.phase = 4 ∧ ∃ u, exec (decodeTxp s.tx.phase) s = .next u ∧
      step (driveInput s v) = .next { s with
        inputs := s.inputs.tail
        tx := u.tx
        tickOverrun := s.tickOverrun || inTick v }) ∧
  ∀ (s t : State) (v : InVec), inRst v = true → step (driveInput s v) = .next t →
    t.tx.phase = 0 ∧ t.outputs.ledDout = false

/-- The timeline of one accepted tick, cycle by cycle, up to the sense request or the skipped one, for any legal record
(45_tick_dispatcher.md R302). -/
def Obligations.TickTimeline : Prop :=
  ∀ s : State, s.good = true → s.phase = 0 → inTick (currentIn s) = true → (∀ v ∈ s.inputs, inRst v = false) →
    ∃ t3, runSteps 3 s = .next t3 ∧
      ∀ n, n ≤ 6 + frameCycles s.params (packFrame t3) →
        ∃ t, runSteps n s = .next t ∧
          t.phase =
            if n = 0 then 0 else if n = 1 then 1 else if n = 2 then 2 else if n = 3 then 3
            else if n ≤ 4 + frameCycles s.params (packFrame t3) then 4
            else if n = 5 + frameCycles s.params (packFrame t3) then 5
            else if s.touch.dbState = 2 then 7 else 6

/-! ## The sound sequencer -/

/-- The volume rows drive their code and write nothing else (30_encoding.md R112). -/
def Obligations.VolumeRowsDriveTheirCode : Prop :=
  ∀ s : State,
    exec .volOff s = .next { s with snd := { s.snd with toneVol := 0 } } ∧
    exec .volSoft s = .next { s with snd := { s.snd with toneVol := 1 } } ∧
    exec .volLoud s = .next { s with snd := { s.snd with toneVol := 2 } }

/-- A SENTINEL silences: `snd_active`, `tone_freq` and `tone_vol` become 0 and everything else keeps its value
(44_sound_sequencer.md R271). -/
def Obligations.SentinelSilences : Prop :=
  ∀ (s : State) (f g : Half) (v : Code2) (r : BitVec 14),
    exec (.sentinel f g v r) s = .next { s with snd := { s.snd with active := false, toneFreq := 0, toneVol := 0 } }

/-- A STEP is entered with its frequency, its volume and the countdown `DUR div TICK_MS`, or stops the program with `snd_err`
where `SND_MAX_STEPS` steps have been entered (44_sound_sequencer.md R267). -/
def Obligations.StepEntryEntersOrHitsTheBound : Prop :=
  ∀ (s : State) (f d g : Half) (v : Code2) (r : BitVec 14), d ≠ 0 → v ≠ 3 →
    s.snd.steps.toNat ≤ s.params.sndMaxSteps → s.params.sndMaxSteps ≤ 255 →
    (s.snd.steps.toNat = s.params.sndMaxSteps → exec (.stepEntry f d g v r) s = .next { s with
      snd := { s.snd with active := false, toneFreq := 0, toneVol := 0, err := true } }) ∧
    (s.snd.steps.toNat ≠ s.params.sndMaxSteps → ∃ c n, c.toNat = d.toNat / s.params.tickMs ∧
      n.toNat = s.snd.steps.toNat + 1 ∧
      exec (.stepEntry f d g v r) s = .next { s with
        snd := ⟨true, s.snd.ptr, n, c, f, f, v, s.snd.err⟩ })

/-- SND_STEP, and RENDER follows: without an active program it does nothing else; with a countdown of at least 2 it adds the
signed glide modulo 2^16 and counts down; a pointer past the ROM is a model fault (44_sound_sequencer.md R268, R269,
20_memory.md R82). -/
def Obligations.SoundStepGlides : Prop :=
  (∀ s : State, s.snd.active = false → exec .phSndStep s = .next { s with phase := 2 }) ∧
  (∀ (s : State) (e : Entry), s.snd.active = true → s.snd.ptr.toNat < s.params.sndRomDepth →
    s.params.sndRom[s.snd.ptr.toNat]? = some e → 2 ≤ s.snd.cnt.toNat →
    ∃ f c : Half, (f.toNat : Int) = ((s.snd.freq.toNat : Int) + (entryGlide e).toInt) % 65536 ∧
      c.toNat + 1 = s.snd.cnt.toNat ∧
      exec .phSndStep s = .next { s with
        phase := 2
        snd := { s.snd with freq := f, toneFreq := f, cnt := c } }) ∧
  ∀ s : State, s.snd.active = true → s.params.sndRomDepth ≤ s.snd.ptr.toNat → exec .phSndStep s = .fault .romIndex

/-- SND_STEP with a countdown of 0 or 1 advances by exactly one entry, after the glide where the countdown was 1: a sentinel
silences, a step is entered, the step bound and the ROM's last index stop the program with `snd_err`, the latter with the
pointer in place (44_sound_sequencer.md R269, R270, R272). -/
def Obligations.SoundStepAdvances : Prop :=
  ∀ (s : State) (e : Entry), s.snd.active = true → s.snd.ptr.toNat < s.params.sndRomDepth →
    s.params.sndRomDepth ≤ 256 → s.params.sndRom[s.snd.ptr.toNat]? = some e → s.snd.cnt.toNat ≤ 1 →
    ∃ f : Half, (f.toNat : Int) = ((s.snd.freq.toNat : Int) + s.snd.cnt.toNat * (entryGlide e).toInt) % 65536 ∧
      (s.snd.ptr.toNat = s.params.sndRomDepth - 1 → exec .phSndStep s = .next { s with
        phase := 2
        snd := ⟨false, s.snd.ptr, s.snd.steps, 0, f, 0, 0, true⟩ }) ∧
      ∀ e' : Entry, s.snd.ptr.toNat + 1 < s.params.sndRomDepth → s.params.sndRom[s.snd.ptr.toNat + 1]? = some e' →
        (isSentinel e' = true → exec .phSndStep s = .next { s with
          phase := 2
          snd := ⟨false, s.snd.ptr + 1, s.snd.steps, 0, f, 0, 0, s.snd.err⟩ }) ∧
        (isSentinel e' = false → s.snd.steps.toNat = s.params.sndMaxSteps → exec .phSndStep s = .next { s with
          phase := 2
          snd := ⟨false, s.snd.ptr + 1, s.snd.steps, 0, f, 0, 0, true⟩ }) ∧
        (isSentinel e' = false → entryVol e' ≠ 3 → s.snd.steps.toNat ≠ s.params.sndMaxSteps →
          ∃ c : Half, c.toNat = (entryDur e').toNat / s.params.tickMs ∧ exec .phSndStep s = .next { s with
            phase := 2
            snd := ⟨true, s.snd.ptr + 1, s.snd.steps + 1, c, entryFreq e', entryFreq e', entryVol e', s.snd.err⟩ })

/-- A step with countdown `c` stays current for `n < c` sound steps: the pointer and the volume hold, the countdown is `c - n`,
and the frequency has moved by `n` glides modulo 2^16 (44_sound_sequencer.md R269). -/
def Obligations.StepIsCurrentForItsCountdown : Prop :=
  ∀ (n : Nat) (s : State) (e : Entry), s.snd.active = true → s.snd.ptr.toNat < s.params.sndRomDepth →
    s.params.sndRom[s.snd.ptr.toNat]? = some e → n < s.snd.cnt.toNat →
    ∃ t, execTimes .phSndStep n s = .next t ∧ t.snd.active = true ∧ t.snd.ptr = s.snd.ptr ∧
      t.snd.toneVol = s.snd.toneVol ∧ t.snd.cnt.toNat = s.snd.cnt.toNat - n ∧
      (t.snd.freq.toNat : Int) = ((s.snd.freq.toNat : Int) + n * (entryGlide e).toInt) % 65536

/-- The source's program takes exactly 5 sound steps per entry and is inactive after 15, from whatever state it is started in
(44_sound_sequencer.md R275). -/
def Obligations.SourceProgramTakesFifteenTicks : Prop :=
  ∀ s : State, s.params = Params.default →
    ∃ u, sndStart 0 s = .next u ∧ ∀ n, n ≤ 15 → ∃ t, execTimes .phSndStep n u = .next t ∧
      t.snd.active = decide (n < 15) ∧ t.snd.ptr.toNat = n / 5 ∧ (n < 15 → t.snd.cnt.toNat = 5 - n % 5)

/-! ## Sensing, calibration and the debouncer -/

/-- SENSE_WAIT with an ack takes the reading less the baseline, clamped at 0, and DEBOUNCE follows; without an ack and without
a timeout it waits unchanged (42_touch_debouncer.md R202). -/
def Obligations.ReadingIsCorrectedByTheBaseline : Prop :=
  ∀ s : State,
    (inAck (currentIn s) = true → ∃ x : Half,
      x.toNat = (inData (currentIn s)).toNat - s.touch.baseline.toNat ∧
      exec .phSenseWait s = .next { s with
        phase := 7
        touch := { s.touch with senseVal := x, senseTmr := 0 } }) ∧
    (inAck (currentIn s) = false → s.params.senseTimeoutCyc = none → exec .phSenseWait s = .next s)

/-- With a timeout of T cycles a request without an ack counts, and in its last cycle is abandoned: the flag is set and the
reading counts as no touch, or during calibration as a raw 0; an ack in that cycle wins (42_touch_debouncer.md R212). -/
def Obligations.SenseTimeoutAbandonsTheRequest : Prop :=
  ∀ (s : State) (n : Nat), s.params.senseTimeoutCyc = some n → n ≤ 2 ^ 20 - 1 → 1 ≤ n →
    (inAck (currentIn s) = false → s.touch.senseTmr.toNat < n - 1 → ∃ c : BitVec 20,
      c.toNat = s.touch.senseTmr.toNat + 1 ∧
      exec .phSenseWait s = .next { s with touch := { s.touch with senseTmr := c } } ∧
      exec .phCalWait s = .next { s with touch := { s.touch with senseTmr := c } }) ∧
    (inAck (currentIn s) = false → s.touch.senseTmr.toNat = n - 1 →
      exec .phSenseWait s = .next { s with
        phase := 7
        touch := { s.touch with senseVal := 0, senseTmr := 0, senseTimeout := true } } ∧
      (s.params.legal = true → s.touch.calCnt.toNat ≤ 9 → ∃ m g,
        m.toNat = s.touch.calCnt.toNat + 1 ∧ g.toNat = s.params.calGapCyc - 1 ∧
        exec .phCalWait s = .next (if s.touch.calCnt = 9
          then { s with phase := 10, touch := { s.touch with calCnt := m, senseTmr := 0, senseTimeout := true } }
          else { s with
            phase := 9
            touch := { s.touch with calCnt := m, senseTmr := 0, senseTimeout := true, calTimer := g } }))) ∧
    (inAck (currentIn s) = true → ∀ t, exec .phSenseWait s = .next t ∨ exec .phCalWait s = .next t →
      t.touch.senseTimeout = s.touch.senseTimeout)

/-- CAL_WAIT with an ack adds the raw reading and counts it; the tenth reading ends the calibration and any other starts the
gap; without an ack and without a timeout it waits unchanged (42_touch_debouncer.md R203). -/
def Obligations.CalibrationCountsTenReadings : Prop :=
  ∀ s : State, s.params.legal = true →
    (inAck (currentIn s) = true → s.touch.calCnt.toNat ≤ 9 →
      s.touch.calSum.toNat ≤ s.touch.calCnt.toNat * 65535 → ∃ n sum g,
      n.toNat = s.touch.calCnt.toNat + 1 ∧ sum.toNat = s.touch.calSum.toNat + (inData (currentIn s)).toNat ∧
      g.toNat = s.params.calGapCyc - 1 ∧
      exec .phCalWait s = .next (if s.touch.calCnt = 9
        then { s with phase := 10, touch := { s.touch with calCnt := n, calSum := sum, senseTmr := 0 } }
        else { s with
          phase := 9
          touch := { s.touch with calCnt := n, calSum := sum, senseTmr := 0, calTimer := g } })) ∧
    (inAck (currentIn s) = false → s.params.senseTimeoutCyc = none → exec .phCalWait s = .next s)

/-- CAL_GAP counts down and at 0 asks for the next reading; CAL_DONE stores the floor of a tenth of the sum and becomes IDLE
(42_touch_debouncer.md R204, R205). -/
def Obligations.CalibrationGapAndBaseline : Prop :=
  (∀ s : State, s.touch.calTimer = 0 → exec .phCalGap s = .next { s with phase := 8 }) ∧
  (∀ s : State, s.touch.calTimer ≠ 0 → ∃ c : BitVec 20, c.toNat + 1 = s.touch.calTimer.toNat ∧
    exec .phCalGap s = .next { s with touch := { s.touch with calTimer := c } }) ∧
  ∀ s : State, s.params.legal = true → s.touch.calSum.toNat ≤ 10 * 65535 → ∃ b : Half,
    b.toNat = s.touch.calSum.toNat / 10 ∧
    exec .phCalDone s = .next { s with phase := 0, touch := { s.touch with baseline := b } }

/-- From the first cycle after a reset, with every request answered in its first cycle, the block is IDLE after
`2 + 9 (CAL_GAP_CYC + 1)` cycles, with the floor of the readings' mean as its baseline and every register outside the
calibration as it was (70_reset_and_hazards.md R352, 42_touch_debouncer.md R203-R205). -/
def Obligations.BootCalibrates : Prop :=
  ∀ (s : State) (readings : List Half) (rest : List InVec), s.params.legal = true → s.invariant = true → s.phase = 8 →
    s.touch.calCnt = 0 → s.touch.calSum = 0 → readings.length = 10 →
    s.inputs = bootInputs s.params.calGapCyc readings ++ rest →
    ∃ sum : BitVec 20, ∃ base : Half,
      sum.toNat = (readings.map BitVec.toNat).sum ∧ base.toNat = sum.toNat / 10 ∧
      runSteps (2 + 9 * (s.params.calGapCyc + 1)) s = .next { s with
        phase := 0
        inputs := rest
        touch := { s.touch with baseline := base, calCnt := 10, calSum := sum, calTimer := 0, senseTmr := 0 } }

/-- With no timeout configured and no ack, a request never ends: after any number of cycles without reset the whole state is
as it was, but for the consumed inputs and, in SENSE_WAIT, the flag of the dropped ticks (60_exceptions.md R322). -/
def Obligations.UnansweredRequestHangs : Prop :=
  ∀ (s : State) (n : Nat), s.params.legal = true → s.invariant = true → s.params.senseTimeoutCyc = none →
    s.phase = 6 ∨ s.phase = 8 → (∀ v ∈ s.inputs, inRst v = false ∧ inAck v = false) →
    s.outputs.ledDout = false ∧ s.outputs.senseReq = true ∧
    runSteps n s = .next { s with
      inputs := s.inputs.drop n
      tickOverrun := s.tickOverrun || (s.phase == 6 && (s.inputs.take n).any inTick) }

/-- DB_IDLE: a reading over the threshold starts a touch at frame 0, and starts the mode's program if one is configured; a
reading at or below the threshold changes nothing (42_touch_debouncer.md R207, 44_sound_sequencer.md R266). A mode past `MODE_COUNT` breaks
10_state.md R45, which is a model fault (60_exceptions.md R326); that the row alone stops on such a state is the model's choice
(log 4). -/
def Obligations.TouchStart : Prop :=
  ∀ s : State,
    (s.params.touchThreshold < s.touch.senseVal.toNat → s.params.modeCount ≤ s.mode.toNat →
      exec .dbIdle s = .fault .invariant) ∧
    (s.touch.senseVal.toNat ≤ s.params.touchThreshold → exec .dbIdle s = .next s) ∧
    (s.params.touchThreshold < s.touch.senseVal.toNat → s.mode.toNat < s.params.modeCount →
      (s.params.boopProg[s.mode.toNat]? = some none → exec .dbIdle s = .next { s with
        touched := true
        frame := 0
        touch := { s.touch with dbState := 1, dur := 1 } }) ∧
      ∀ (q i : Nat) (e : Entry), s.params.boopProg[s.mode.toNat]? = some (some q) →
        s.params.programBase[q]? = some i → i < s.params.sndRomDepth → s.params.sndRom[i]? = some e →
        isSentinel e = true ∨ entryVol e ≠ 3 → 1 ≤ s.params.sndMaxSteps →
        exec .dbIdle s = .next { s with
          touched := true
          frame := 0
          touch := { s.touch with dbState := 1, dur := 1 }
          snd := soundAfterStart s i e })

/-- DB_TOUCHING over the threshold: the duration counts, and at `LONG_TOUCH` the mode advances cyclically, `touched` is cleared,
the duration restarts and the mode-change program starts; the debouncer stays in TOUCHING and the frame is not written
(42_touch_debouncer.md R208, R209). -/
def Obligations.TouchContinuesOrAdvancesTheMode : Prop :=
  ∀ s : State, s.params.touchThreshold < s.touch.senseVal.toNat →
    (s.touch.dur.toNat + 1 < s.params.longTouch → s.params.longTouch ≤ 255 → ∃ d : BitVec 8,
      d.toNat = s.touch.dur.toNat + 1 ∧
      exec .dbTouching s = .next { s with touch := { s.touch with dur := d } }) ∧
    (s.touch.dur.toNat + 1 = s.params.longTouch → 1 ≤ s.params.modeCount → s.params.modeCount ≤ 256 →
      ∀ (i : Nat) (e : Entry), s.params.programBase[s.params.modeChangeProg]? = some i → i < s.params.sndRomDepth →
        s.params.sndRom[i]? = some e → isSentinel e = true ∨ entryVol e ≠ 3 → 1 ≤ s.params.sndMaxSteps →
        ∃ m : BitVec 8, m.toNat = (s.mode.toNat + 1) % s.params.modeCount ∧
          exec .dbTouching s = .next { s with
            mode := m
            touched := false
            touch := { s.touch with dur := 0 }
            snd := soundAfterStart s i e })

/-- A release starts the hold-off, or without hold-off ticks returns to IDLE; each hold-off tick counts down once and the last
returns to IDLE; `touched`, `mode` and `frame` keep their values (42_touch_debouncer.md R210, R211). -/
def Obligations.ReleaseAndHoldoff : Prop :=
  (∀ s : State, s.touch.senseVal.toNat ≤ s.params.touchThreshold → s.params.holdoffTicks ≤ 255 →
    (s.params.holdoffTicks = 0 →
      exec .dbTouching s = .next { s with touch := { s.touch with dur := 0, dbState := 0 } }) ∧
    (s.params.holdoffTicks ≠ 0 → ∃ h : BitVec 8, h.toNat = s.params.holdoffTicks ∧
      exec .dbTouching s = .next { s with touch := { s.touch with dur := 0, dbState := 2, hold := h } })) ∧
  ∀ s : State, 1 ≤ s.touch.hold.toNat → ∃ h : BitVec 8, h.toNat + 1 = s.touch.hold.toNat ∧
    exec .dbHoldoff s = .next { s with
      touch := { s.touch with hold := h, dbState := if s.touch.hold = 1 then 0 else s.touch.dbState } }

/-- DEBOUNCE performs the row that `db_state` selects and returns to IDLE; from a good state it always completes
(42_touch_debouncer.md R206). -/
def Obligations.DebounceRunsOneRuleAndReturns : Prop :=
  (∀ s t : State, exec (decodeDb s.touch.dbState) s = .next t → exec .phDebounce s = .next { t with phase := 0 }) ∧
  ∀ s : State, s.good = true → ∃ t, exec (decodeDb s.touch.dbState) s = .next t ∧
    exec .phDebounce s = .next { t with phase := 0 }

/-- A touch of L consecutive samples over the threshold, from IDLE, changes the mode exactly `L div LONG_TOUCH` times, leaves
the duration at `L mod LONG_TOUCH`, and has cleared `touched` once `LONG_TOUCH` samples are reached: the debouncer's rows
alone, sample after sample (42_touch_debouncer.md R214). -/
def Obligations.LongTouchAdvancesOncePerLongTouchSamples : Prop :=
  ∀ (s : State) (L : Nat), s.good = true → s.touch.dbState = 0 → s.params.touchThreshold < s.touch.senseVal.toNat →
    1 ≤ L → ∃ u t, exec .dbIdle s = .next u ∧ execTimes .dbTouching (L - 1) u = .next t ∧
      t.mode.toNat = (s.mode.toNat + L / s.params.longTouch) % s.params.modeCount ∧
      t.touch.dur.toNat = L % s.params.longTouch ∧ t.touched = decide (L < s.params.longTouch) ∧
      t.touch.dbState = 1

/-! ## Whole-machine rules -/

/-- The mode changes in a step without reset only where the debouncer's long-touch event fires, and then as R209 says
(42_touch_debouncer.md R209, R214). -/
def Obligations.ModeChangesOnlyAtALongTouch : Prop :=
  ∀ s t : State, step s = .next t → inRst (currentIn s) = false → t.mode ≠ s.mode →
    s.phase = 7 ∧ s.touch.dbState = 1 ∧ s.params.touchThreshold < s.touch.senseVal.toNat ∧
    s.touch.dur.toNat + 1 = s.params.longTouch ∧ t.mode.toNat = (s.mode.toNat + 1) % s.params.modeCount ∧
    t.touched = false ∧ t.touch.dur = 0

/-- The frame counter is written by FRAME_INC, plus 1 modulo 256, and by a touch start, to 0, and by nothing else but reset
(45_tick_dispatcher.md R306). -/
def Obligations.FrameCounterProperty : Prop :=
  ∀ s t : State, step s = .next t → inRst (currentIn s) = false →
    t.frame = if s.phase = 5 then s.frame + 1
      else if s.phase = 7 ∧ s.touch.dbState = 0 ∧ s.params.touchThreshold < s.touch.senseVal.toNat then 0
      else s.frame

/-- The sticky flags: no step but a reset clears one, and each is set exactly by its cause. `tick_overrun`: a tick in phases
1-7. `snd_err`: a sound step of an active program at the end of its countdown, at the ROM's last index or before an entry that is no
sentinel with `SND_MAX_STEPS` steps entered. `sense_timeout`: the last cycle of a request without an ack (60_exceptions.md R320,
44_sound_sequencer.md R272, 42_touch_debouncer.md R212, 45_tick_dispatcher.md R292). -/
def Obligations.StickyFlagsStayAndHaveTheirCauses : Prop :=
  ∀ s t : State, step s = .next t → inRst (currentIn s) = false →
    (t.tickOverrun = true ↔ s.tickOverrun = true ∨
      (inTick (currentIn s) = true ∧ 1 ≤ s.phase.toNat ∧ s.phase.toNat ≤ 7)) ∧
    (t.snd.err = true ↔ s.snd.err = true ∨
      (s.phase = 1 ∧ s.snd.active = true ∧ s.snd.cnt.toNat ≤ 1 ∧
        (s.snd.ptr.toNat = s.params.sndRomDepth - 1 ∨
          (s.snd.steps.toNat = s.params.sndMaxSteps ∧
            ∃ e, s.params.sndRom[s.snd.ptr.toNat + 1]? = some e ∧ isSentinel e = false)))) ∧
    (t.touch.senseTimeout = true ↔ s.touch.senseTimeout = true ∨
      ((s.phase = 6 ∨ s.phase = 8) ∧ inAck (currentIn s) = false ∧
        ∃ n, s.params.senseTimeoutCyc = some n ∧ s.touch.senseTmr.toNat = n - 1))

/-- Who writes what, in a step without reset: the parameter record by nothing, the buffer by RENDER alone, the baseline by
CAL_DONE alone, the frame register `tx_sh` by TX_START alone, `touched` set by a touch start and cleared by RENDER or by the
debouncer alone (10_state.md R41, R42, 20_memory.md R93, 42_touch_debouncer.md R205). -/
def Obligations.FieldsHaveTheirWriters : Prop :=
  ∀ s t : State, step s = .next t →
    t.params = s.params ∧ t.inputs = s.inputs.tail ∧ (inRst (currentIn s) = false →
      (t.buf ≠ s.buf → s.phase = 2) ∧
      (t.touch.baseline ≠ s.touch.baseline → s.phase = 10) ∧
      (t.tx.sh ≠ s.tx.sh → s.phase = 3) ∧
      (t.snd ≠ s.snd → s.phase = 1 ∨ s.phase = 7) ∧
      (s.touched = false → t.touched = true → s.phase = 7 ∧ s.touch.dbState = 0) ∧
      (s.touched = true → t.touched = false → s.phase = 2 ∨ (s.phase = 7 ∧ s.touch.dbState = 1)))

/-! ## The animation engine -/

/-- RENDER writes the two converted colours in channel order, left light first, clears `touched` at the strobe's last frame or
past it, and goes on to TX_START; no byte past the buffer and no other register changes (43_animation_engine.md R232, R235,
R236). A mode past `MODE_COUNT` breaks 10_state.md R45, a model fault (60_exceptions.md R326); that the row alone stops there, and
under an illegal hue table, is the model's choice (log 4, log 10). -/
def Obligations.RenderWritesBothLights : Prop :=
  (∀ s : State, s.params.hueLegal = true → s.params.modeCount ≤ s.mode.toNat → exec .phRender s = .fault .invariant) ∧
  (∀ s : State, s.params.hueLegal = false → exec .phRender s = .refused .illegalParameters) ∧
  ∀ (s : State) (m : Mode) (n : Nat) (pair : HsvPair), s.params.legal = true →
    s.params.modeTable[s.mode.toNat]? = some m → s.params.touchFrames[s.mode.toNat]? = some n →
    behaviourAt (if s.touched then m.touched else m.idle) s.frame = some pair →
    ∃ t, exec .phRender s = .next t ∧
      Memory.read t.buf 0 = channelOf s.params.channelOrder.x0 (hsvToRgb s.params pair.left) ∧
      Memory.read t.buf 1 = channelOf s.params.channelOrder.x1 (hsvToRgb s.params pair.left) ∧
      Memory.read t.buf 2 = channelOf s.params.channelOrder.x2 (hsvToRgb s.params pair.left) ∧
      Memory.read t.buf 3 = channelOf s.params.channelOrder.x0 (hsvToRgb s.params pair.right) ∧
      Memory.read t.buf 4 = channelOf s.params.channelOrder.x1 (hsvToRgb s.params pair.right) ∧
      Memory.read t.buf 5 = channelOf s.params.channelOrder.x2 (hsvToRgb s.params pair.right) ∧
      (∀ a, 6 ≤ a → Memory.read t.buf a = Memory.read s.buf a) ∧
      (t.touched = true ↔ s.touched = true ∧ s.frame.toNat < n - 1) ∧
      t = { s with buf := t.buf, touched := t.touched, phase := 3 }

/-- Two renders with equal mode, frame and touched flag, under one record, leave equal buffers, whatever else differs
(43_animation_engine.md R238). -/
def Obligations.RenderIsIdempotent : Prop :=
  ∀ s u s' u' : State, s.params = u.params → s.mode = u.mode → s.frame = u.frame → s.touched = u.touched →
    exec .phRender s = .next s' → exec .phRender u = .next u' →
    (∀ j, j < 6 → Memory.read s'.buf j = Memory.read u'.buf j) ∧
    (Memory.wf s.buf = true → Memory.wf u.buf = true → s'.buf = u'.buf)

/-- The default modes on the wire's bytes, at every frame. Mode 0: aqua triangle of period 64, white strobe of period 4. Mode 1:
a full hue sweep with the lights half a turn apart, and one 16 times faster on both. Mode 2: red triangles of period 32 half a
period apart, a white strobe that alternates every 4 frames. Mode 3: a hue sweep at value 64 on both, and one 4 times faster with
the lights in opposite hues (43_animation_engine.md R240-R247). -/
def Obligations.DefaultTrianglesAndStrobes : Prop :=
  ∀ s : State, s.params = Params.default →
    (s.mode = 0 → s.touched = false → ∃ t, exec .phRender s = .next t ∧ ∀ j, j < 6 →
      (Memory.read t.buf j).toNat = if j = 1 ∨ j = 4 then 0 else tri (s.frame.toNat % 64) 64) ∧
    (s.mode = 0 → s.touched = true → ∃ t, exec .phRender s = .next t ∧ ∀ j, j < 6 →
      (Memory.read t.buf j).toNat = if s.frame.toNat % 4 < 2 then 255 else 0) ∧
    (s.mode = 1 → s.touched = false → ∃ t, exec .phRender s = .next t ∧
      t.showsHues s.frame.toNat (s.frame.toNat + 128) 255) ∧
    (s.mode = 1 → s.touched = true → ∃ t, exec .phRender s = .next t ∧
      t.showsHues (16 * s.frame.toNat) (16 * s.frame.toNat) 255) ∧
    (s.mode = 2 → s.touched = false → ∃ t, exec .phRender s = .next t ∧ ∀ j, j < 6 →
      (Memory.read t.buf j).toNat = if j = 1 then tri (s.frame.toNat % 32) 32
        else if j = 4 then tri ((s.frame.toNat + 16) % 32) 32 else 0) ∧
    (s.mode = 2 → s.touched = true → ∃ t, exec .phRender s = .next t ∧ ∀ j, j < 6 →
      (Memory.read t.buf j).toNat = if (s.frame.toNat / 4) % 2 = j / 3 then 255 else 0) ∧
    (s.mode = 3 → s.touched = false → ∃ t, exec .phRender s = .next t ∧
      t.showsHues s.frame.toNat s.frame.toNat 64) ∧
    (s.mode = 3 → s.touched = true → ∃ t, exec .phRender s = .next t ∧
      t.showsHues (4 * s.frame.toNat) (4 * s.frame.toNat + 128) 255)

/-- The triangle wave of an even period of at least 4: 0 at both ends, 255 at both middles, symmetric, within a byte
(43_animation_engine.md R239). -/
def Obligations.TriangleWave : Prop :=
  ∀ p P : Nat, P % 2 = 0 → 4 ≤ P → p < P →
    tri p P = tri (P - 1 - p) P ∧ tri p P ≤ 255 ∧
    (p < P / 2 → tri p P = p * 255 / (P / 2 - 1)) ∧
    tri 0 P = 0 ∧ tri (P / 2 - 1) P = 255 ∧ tri (P / 2) P = 255 ∧ tri (P - 1) P = 0

/-! ## The colour converter -/

/-- SCALE8 is `(x (1 + s)) div 256`, with its corner values (40_color_model.md R141). -/
def Obligations.Scale8IsExact : Prop :=
  (∀ x s : Byte, (scale8 x s).toNat = x.toNat * (1 + s.toNat) / 256) ∧ (∀ x : Byte, scale8 x 255 = x) ∧
  (∀ x : Byte, scale8 x 0 = 0) ∧ (∀ s : Byte, scale8 0 s = 0) ∧ ∀ s : Byte, scale8 255 s = s

/-- LERP stays between its endpoints, starts at the first, never reaches a different second one, and holds a constant
(40_color_model.md R143). -/
def Obligations.LerpStaysBetween : Prop :=
  ∀ a b t : Byte,
    min a.toNat b.toNat ≤ (lerp a b t).toNat ∧ (lerp a b t).toNat ≤ max a.toNat b.toNat ∧ lerp a b 0 = a ∧
    lerp a a t = a ∧ (a ≠ b → lerp a b t ≠ b) ∧
    (a.toNat ≤ b.toNat → (lerp a b t).toNat = a.toNat + (b.toNat - a.toNat) * t.toNat / 256) ∧
    (b.toNat < a.toNat → (lerp a b t).toNat = a.toNat - (a.toNat - b.toNat) * t.toNat / 256)

/-- For every legal hue table, hue, saturation and value, each channel is interpolated between the sector's two endpoints, lifted
by the desaturation floor, and then scaled by the value, in exact arithmetic (40_color_model.md R150). Hence full saturation and
value keep a channel at 255, saturation 0 gives grey of the value, value 0 gives black (R151). -/
def Obligations.ConverterProperties : Prop :=
  ∀ p : Params, p.hueLegal = true → ∀ h s v : Byte,
    (∃ a b : Rgb,
      p.hueTable[h.toNat * p.hueSectors / 256]? = some a ∧
      p.hueTable[(h.toNat * p.hueSectors / 256 + 1) % p.hueSectors]? = some b ∧
      ∀ (ch : Channel) (c f : Nat),
        c = (lerp (channelOf ch a) (channelOf ch b) (BitVec.ofNat 8 (h.toNat * p.hueSectors % 256))).toNat →
        f = (255 - s.toNat) * (255 - s.toNat) / 255 →
        (channelOf ch (hsvToRgb p ⟨h, s, v⟩)).toNat =
          (f + c * (1 + (255 - f)) / 256) * (1 + v.toNat) / 256) ∧
    max (hsvToRgb p ⟨h, 255, 255⟩).r.toNat
      (max (hsvToRgb p ⟨h, 255, 255⟩).g.toNat (hsvToRgb p ⟨h, 255, 255⟩).b.toNat) = 255 ∧
    hsvToRgb p ⟨h, 0, v⟩ = ⟨v, v, v⟩ ∧ hsvToRgb p ⟨h, s, 0⟩ = ⟨0, 0, 0⟩

/-- At the first hue of a sector the ramp, and the colour at full saturation and value, is the sector's endpoint; inside a
sector the ramp does not reach a different next endpoint; hue 255 of the default table is not red (40_color_model.md R152). -/
def Obligations.HueEndpointsAreTheTable : Prop :=
  (∀ (p : Params) (h : Byte), p.hueLegal = true →
    hsvToRgb p ⟨h, 255, 255⟩ = ramp p h ∧
    (h.toNat * p.hueSectors % 256 = 0 → p.hueTable[h.toNat * p.hueSectors / 256]? = some (ramp p h)) ∧
    (ramp p h = hueEndpoint p ((hueSector p h + 1) % p.hueSectors) →
      hueEndpoint p (hueSector p h) = hueEndpoint p ((hueSector p h + 1) % p.hueSectors))) ∧
  hsvToRgb Params.default ⟨255, 255, 255⟩ = ⟨255, 0, 8⟩
end

