-- ==== Sys2Proof/Laws/Memory.lean ====
section
/-! SUPPORT. The laws of the light buffer: a read after a write, and the canonical form that every memory operation keeps. -/

set_option Elab.async false

namespace Sys2Proof.Machine

@[simp] theorem Memory.read_nil (a : Nat) : Memory.read [] a = unlistedByte := rfl

@[simp] theorem Memory.read_erase_same (m : Memory) (a : Nat) : Memory.read (Memory.erase m a) a = unlistedByte := by
  induction m with
  | nil => rfl
  | cons c rest ih =>
    obtain ⟨b, v⟩ := c
    by_cases h : b = a <;> simp [Memory.erase, Memory.read, h, ih]

theorem Memory.read_erase_other (m : Memory) {a b : Nat} (h : b ≠ a) :
    Memory.read (Memory.erase m a) b = Memory.read m b := by
  induction m with
  | nil => rfl
  | cons c rest ih =>
    obtain ⟨k, v⟩ := c
    by_cases hk : k = a
    · subst hk; simp [Memory.erase, Memory.read, ih, Ne.symm h]
    · simp only [Memory.erase, hk, ↓reduceIte, Memory.read, ih]

theorem Memory.read_insert_same (m : Memory) (a : Nat) (v : Byte) :
    Memory.read (Memory.insert (Memory.erase m a) a v) a = v := by
  induction m with
  | nil => simp [Memory.erase, Memory.insert, Memory.read]
  | cons c rest ih =>
    obtain ⟨k, w⟩ := c
    by_cases hk : k = a
    · simpa [Memory.erase, hk] using ih
    · by_cases hl : a < k <;> simp [Memory.erase, Memory.insert, Memory.read, hk, hl, ih]

theorem Memory.read_insert_other (m : Memory) {a b : Nat} (v : Byte) (h : b ≠ a) :
    Memory.read (Memory.insert m a v) b = Memory.read m b := by
  induction m with
  | nil => simp [Memory.insert, Memory.read, Ne.symm h]
  | cons c rest ih =>
    obtain ⟨k, w⟩ := c
    by_cases hl : a < k <;> simp only [Memory.insert, hl, ↓reduceIte, Memory.read, ih, Ne.symm h]

/-- A read after a write to the same address gives the value written. -/
@[simp] theorem Memory.read_write_same (m : Memory) (a : Nat) (v : Byte) : Memory.read (Memory.write m a v) a = v := by
  by_cases h : v = unlistedByte
  · simp [Memory.write, h]
  · simp [Memory.write, h, Memory.read_insert_same]

/-- A write leaves every other address alone. -/
theorem Memory.read_write_other (m : Memory) {a b : Nat} (v : Byte) (h : b ≠ a) :
    Memory.read (Memory.write m a v) b = Memory.read m b := by
  by_cases hv : v = unlistedByte
  · simp [Memory.write, hv, Memory.read_erase_other m h]
  · simp [Memory.write, hv, Memory.read_insert_other _ v h, Memory.read_erase_other m h]

/-- A canonical list from a higher address on is one from a lower address on. -/
theorem Memory.wfFrom_mono {lo lo' : Nat} (h : lo ≤ lo') {m : Memory} (hm : Memory.wfFrom lo' m = true) :
    Memory.wfFrom lo m = true := by
  cases m with
  | nil => rfl
  | cons c rest =>
    obtain ⟨a, v⟩ := c
    simp only [Memory.wfFrom, Bool.and_eq_true, decide_eq_true_eq] at hm ⊢
    exact ⟨⟨⟨by omega, hm.1.1.2⟩, hm.1.2⟩, hm.2⟩

theorem Memory.wfFrom_erase {lo : Nat} {m : Memory} (a : Nat) (hm : Memory.wfFrom lo m = true) :
    Memory.wfFrom lo (Memory.erase m a) = true := by
  induction m generalizing lo with
  | nil => rfl
  | cons c rest ih =>
    obtain ⟨k, v⟩ := c
    simp only [Memory.wfFrom, Bool.and_eq_true, decide_eq_true_eq] at hm
    by_cases hk : k = a
    · simpa [Memory.erase, hk] using Memory.wfFrom_mono (by omega) (ih hm.2)
    · simpa [Memory.erase, hk, Memory.wfFrom] using ⟨⟨hm.1.1, by simpa using hm.1.2⟩, ih hm.2⟩

/-- No cell of a canonical list from `lo` on has a lower address. -/
theorem Memory.wfFrom_insert {lo a : Nat} {v : Byte} {m : Memory} (hm : Memory.wfFrom lo m = true) (hlo : lo ≤ a)
    (ha : a < 6) (hv : v ≠ unlistedByte) (hfresh : ∀ c ∈ m, c.1 ≠ a) :
    Memory.wfFrom lo (Memory.insert m a v) = true := by
  induction m generalizing lo with
  | nil => simp [Memory.insert, Memory.wfFrom, hlo, ha, hv]
  | cons c rest ih =>
    obtain ⟨k, w⟩ := c
    have hk : k ≠ a := hfresh (k, w) (by simp)
    simp only [Memory.wfFrom, Bool.and_eq_true, decide_eq_true_eq] at hm
    by_cases hl : a < k
    · have hw : (w != unlistedByte) = true := hm.1.2
      simp only [Memory.insert, hl, ↓reduceIte, Memory.wfFrom, Bool.and_eq_true, decide_eq_true_eq]
      exact ⟨⟨⟨hlo, ha⟩, by simpa using hv⟩, ⟨⟨by omega, hm.1.1.2⟩, hw⟩, hm.2⟩
    · simp only [Memory.insert, hl, ↓reduceIte, Memory.wfFrom, Bool.and_eq_true, decide_eq_true_eq]
      exact ⟨hm.1, ih hm.2 (by omega) (fun c hc => hfresh c (by simp [hc]))⟩

theorem Memory.erase_fresh (m : Memory) (a : Nat) : ∀ c ∈ Memory.erase m a, c.1 ≠ a := by
  induction m with
  | nil => simp [Memory.erase]
  | cons c rest ih =>
    obtain ⟨k, v⟩ := c
    by_cases hk : k = a
    · simpa [Memory.erase, hk] using ih
    · intro d hd
      simp only [Memory.erase, hk, ↓reduceIte, List.mem_cons] at hd
      rcases hd with rfl | hd
      · exact hk
      · exact ih d hd

/-- A write inside the buffer keeps the canonical form. -/
theorem Memory.wf_write {m : Memory} (a : Nat) (v : Byte) (ha : a < 6) (hm : Memory.wf m = true) :
    Memory.wf (Memory.write m a v) = true := by
  by_cases hv : v = unlistedByte
  · simpa [Memory.wf, Memory.write, hv] using Memory.wfFrom_erase a hm
  · simpa [Memory.wf, Memory.write, hv] using
      Memory.wfFrom_insert (Memory.wfFrom_erase a hm) (Nat.zero_le a) ha hv (Memory.erase_fresh m a)

/-- `BufWrite` keeps the canonical form. -/
theorem bufWrite_wf (m : Memory) (i : Fin 6) (v : Byte) (hm : Memory.wf m = true) : Memory.wf (bufWrite m i v) = true :=
  Memory.wf_write i.val v i.isLt hm

/-- What a byte reads after `BufWrite`. -/
theorem read_bufWrite (m : Memory) (i : Fin 6) (v : Byte) (a : Nat) :
    Memory.read (bufWrite m i v) a = if a = i.val then v else Memory.read m a := by
  by_cases h : a = i.val
  · subst h; simp [bufWrite]
  · simp [bufWrite, h, Memory.read_write_other m v h]

/-- The buffer after RENDER's six writes keeps the canonical form. -/
theorem lightBytes_wf (o : ChannelOrder) (a b : Rgb) (m : Memory) (hm : Memory.wf m = true) :
    Memory.wf (lightBytes o a b m) = true := by
  unfold lightBytes
  exact bufWrite_wf _ _ _ (bufWrite_wf _ _ _ (bufWrite_wf _ _ _ (bufWrite_wf _ _ _ (bufWrite_wf _ _ _
    (bufWrite_wf _ _ _ hm)))))

/-- Every byte of the buffer after RENDER's six writes: three per light, in channel order; nothing past the buffer
changes. -/
theorem read_lightBytes (o : ChannelOrder) (a b : Rgb) (m : Memory) (k : Nat) :
    Memory.read (lightBytes o a b m) k =
      if k = 0 then channelOf o.x0 a else if k = 1 then channelOf o.x1 a else if k = 2 then channelOf o.x2 a
      else if k = 3 then channelOf o.x0 b else if k = 4 then channelOf o.x1 b else if k = 5 then channelOf o.x2 b
      else Memory.read m k := by
  simp only [lightBytes, read_bufWrite, Fin.isValue, Fin.coe_ofNat_eq_mod]
  by_cases h0 : k = 0
  · subst h0; simp
  by_cases h1 : k = 1
  · subst h1; simp
  by_cases h2 : k = 2
  · subst h2; simp
  by_cases h3 : k = 3
  · subst h3; simp
  by_cases h4 : k = 4
  · subst h4; simp
  by_cases h5 : k = 5
  · subst h5; simp
  simp [h0, h1, h2, h3, h4, h5]

/-- The buffer after reset has the canonical form (10_state.md R38). -/
theorem reset_buf_wf : Memory.wf State.reset.buf = true := rfl

end Sys2Proof.Machine
end

