-- ==== Sys2Proof/Laws/State.lean ====
section
/-! SUPPORT. What every named update of the state does to every field: one lemma per field per update. -/

set_option Elab.async false

namespace Sys2Proof.Machine

/-! ### setPhase -/

@[simp] theorem setPhase_params (s : State) (p : PhaseCode) : (setPhase s p).params = s.params := rfl
@[simp] theorem setPhase_inputs (s : State) (p : PhaseCode) : (setPhase s p).inputs = s.inputs := rfl
@[simp] theorem setPhase_phase (s : State) (p : PhaseCode) : (setPhase s p).phase = p := rfl
@[simp] theorem setPhase_mode (s : State) (p : PhaseCode) : (setPhase s p).mode = s.mode := rfl
@[simp] theorem setPhase_frame (s : State) (p : PhaseCode) : (setPhase s p).frame = s.frame := rfl
@[simp] theorem setPhase_touched (s : State) (p : PhaseCode) : (setPhase s p).touched = s.touched := rfl
@[simp] theorem setPhase_tickOverrun (s : State) (p : PhaseCode) : (setPhase s p).tickOverrun = s.tickOverrun := rfl
@[simp] theorem setPhase_touch (s : State) (p : PhaseCode) : (setPhase s p).touch = s.touch := rfl
@[simp] theorem setPhase_buf (s : State) (p : PhaseCode) : (setPhase s p).buf = s.buf := rfl
@[simp] theorem setPhase_snd (s : State) (p : PhaseCode) : (setPhase s p).snd = s.snd := rfl
@[simp] theorem setPhase_tx (s : State) (p : PhaseCode) : (setPhase s p).tx = s.tx := rfl

/-! ### driveInput -/

@[simp] theorem driveInput_params (s : State) (v : InVec) : (driveInput s v).params = s.params := rfl
@[simp] theorem driveInput_inputs (s : State) (v : InVec) : (driveInput s v).inputs = v :: s.inputs.tail := rfl
@[simp] theorem driveInput_phase (s : State) (v : InVec) : (driveInput s v).phase = s.phase := rfl
@[simp] theorem driveInput_mode (s : State) (v : InVec) : (driveInput s v).mode = s.mode := rfl
@[simp] theorem driveInput_frame (s : State) (v : InVec) : (driveInput s v).frame = s.frame := rfl
@[simp] theorem driveInput_touched (s : State) (v : InVec) : (driveInput s v).touched = s.touched := rfl
@[simp] theorem driveInput_tickOverrun (s : State) (v : InVec) : (driveInput s v).tickOverrun = s.tickOverrun := rfl
@[simp] theorem driveInput_touch (s : State) (v : InVec) : (driveInput s v).touch = s.touch := rfl
@[simp] theorem driveInput_buf (s : State) (v : InVec) : (driveInput s v).buf = s.buf := rfl
@[simp] theorem driveInput_snd (s : State) (v : InVec) : (driveInput s v).snd = s.snd := rfl
@[simp] theorem driveInput_tx (s : State) (v : InVec) : (driveInput s v).tx = s.tx := rfl

/-! ### popInput -/

@[simp] theorem popInput_params (s : State) : (popInput s).params = s.params := rfl
@[simp] theorem popInput_inputs (s : State) : (popInput s).inputs = s.inputs.tail := rfl
@[simp] theorem popInput_phase (s : State) : (popInput s).phase = s.phase := rfl
@[simp] theorem popInput_mode (s : State) : (popInput s).mode = s.mode := rfl
@[simp] theorem popInput_frame (s : State) : (popInput s).frame = s.frame := rfl
@[simp] theorem popInput_touched (s : State) : (popInput s).touched = s.touched := rfl
@[simp] theorem popInput_tickOverrun (s : State) : (popInput s).tickOverrun = s.tickOverrun := rfl
@[simp] theorem popInput_touch (s : State) : (popInput s).touch = s.touch := rfl
@[simp] theorem popInput_buf (s : State) : (popInput s).buf = s.buf := rfl
@[simp] theorem popInput_snd (s : State) : (popInput s).snd = s.snd := rfl
@[simp] theorem popInput_tx (s : State) : (popInput s).tx = s.tx := rfl

/-! ### resetState -/

@[simp] theorem resetState_params (s : State) : (resetState s).params = s.params := rfl
@[simp] theorem resetState_inputs (s : State) : (resetState s).inputs = s.inputs := rfl
@[simp] theorem resetState_phase (s : State) : (resetState s).phase = 8#4 := rfl
@[simp] theorem resetState_mode (s : State) : (resetState s).mode = 0#8 := rfl
@[simp] theorem resetState_frame (s : State) : (resetState s).frame = 0#8 := rfl
@[simp] theorem resetState_touched (s : State) : (resetState s).touched = false := rfl
@[simp] theorem resetState_tickOverrun (s : State) : (resetState s).tickOverrun = false := rfl
@[simp] theorem resetState_touch (s : State) : (resetState s).touch = Touch.reset := rfl
@[simp] theorem resetState_buf (s : State) : (resetState s).buf = [] := rfl
@[simp] theorem resetState_snd (s : State) : (resetState s).snd = Sound.reset := rfl
@[simp] theorem resetState_tx (s : State) : (resetState s).tx = Serial.reset := rfl

/-! ### setTickOverrun -/

@[simp] theorem setTickOverrun_params (s : State) : (setTickOverrun s).params = s.params := rfl
@[simp] theorem setTickOverrun_inputs (s : State) : (setTickOverrun s).inputs = s.inputs := rfl
@[simp] theorem setTickOverrun_phase (s : State) : (setTickOverrun s).phase = s.phase := rfl
@[simp] theorem setTickOverrun_mode (s : State) : (setTickOverrun s).mode = s.mode := rfl
@[simp] theorem setTickOverrun_frame (s : State) : (setTickOverrun s).frame = s.frame := rfl
@[simp] theorem setTickOverrun_touched (s : State) : (setTickOverrun s).touched = s.touched := rfl
@[simp] theorem setTickOverrun_tickOverrun (s : State) : (setTickOverrun s).tickOverrun = true := rfl
@[simp] theorem setTickOverrun_touch (s : State) : (setTickOverrun s).touch = s.touch := rfl
@[simp] theorem setTickOverrun_buf (s : State) : (setTickOverrun s).buf = s.buf := rfl
@[simp] theorem setTickOverrun_snd (s : State) : (setTickOverrun s).snd = s.snd := rfl
@[simp] theorem setTickOverrun_tx (s : State) : (setTickOverrun s).tx = s.tx := rfl

/-! ### setSndErr -/

@[simp] theorem setSndErr_params (s : State) : (setSndErr s).params = s.params := rfl
@[simp] theorem setSndErr_inputs (s : State) : (setSndErr s).inputs = s.inputs := rfl
@[simp] theorem setSndErr_phase (s : State) : (setSndErr s).phase = s.phase := rfl
@[simp] theorem setSndErr_mode (s : State) : (setSndErr s).mode = s.mode := rfl
@[simp] theorem setSndErr_frame (s : State) : (setSndErr s).frame = s.frame := rfl
@[simp] theorem setSndErr_touched (s : State) : (setSndErr s).touched = s.touched := rfl
@[simp] theorem setSndErr_tickOverrun (s : State) : (setSndErr s).tickOverrun = s.tickOverrun := rfl
@[simp] theorem setSndErr_touch (s : State) : (setSndErr s).touch = s.touch := rfl
@[simp] theorem setSndErr_buf (s : State) : (setSndErr s).buf = s.buf := rfl
@[simp] theorem setSndErr_snd (s : State) : (setSndErr s).snd = { s.snd with err := true } := rfl
@[simp] theorem setSndErr_tx (s : State) : (setSndErr s).tx = s.tx := rfl

/-! ### setSenseTimeout -/

@[simp] theorem setSenseTimeout_params (s : State) : (setSenseTimeout s).params = s.params := rfl
@[simp] theorem setSenseTimeout_inputs (s : State) : (setSenseTimeout s).inputs = s.inputs := rfl
@[simp] theorem setSenseTimeout_phase (s : State) : (setSenseTimeout s).phase = s.phase := rfl
@[simp] theorem setSenseTimeout_mode (s : State) : (setSenseTimeout s).mode = s.mode := rfl
@[simp] theorem setSenseTimeout_frame (s : State) : (setSenseTimeout s).frame = s.frame := rfl
@[simp] theorem setSenseTimeout_touched (s : State) : (setSenseTimeout s).touched = s.touched := rfl
@[simp] theorem setSenseTimeout_tickOverrun (s : State) : (setSenseTimeout s).tickOverrun = s.tickOverrun := rfl
@[simp] theorem setSenseTimeout_touch (s : State) : (setSenseTimeout s).touch = { s.touch with senseTimeout := true } := rfl
@[simp] theorem setSenseTimeout_buf (s : State) : (setSenseTimeout s).buf = s.buf := rfl
@[simp] theorem setSenseTimeout_snd (s : State) : (setSenseTimeout s).snd = s.snd := rfl
@[simp] theorem setSenseTimeout_tx (s : State) : (setSenseTimeout s).tx = s.tx := rfl

/-! ### driveVolume -/

@[simp] theorem driveVolume_params (c : Code2) (s : State) : (driveVolume c s).params = s.params := rfl
@[simp] theorem driveVolume_inputs (c : Code2) (s : State) : (driveVolume c s).inputs = s.inputs := rfl
@[simp] theorem driveVolume_phase (c : Code2) (s : State) : (driveVolume c s).phase = s.phase := rfl
@[simp] theorem driveVolume_mode (c : Code2) (s : State) : (driveVolume c s).mode = s.mode := rfl
@[simp] theorem driveVolume_frame (c : Code2) (s : State) : (driveVolume c s).frame = s.frame := rfl
@[simp] theorem driveVolume_touched (c : Code2) (s : State) : (driveVolume c s).touched = s.touched := rfl
@[simp] theorem driveVolume_tickOverrun (c : Code2) (s : State) : (driveVolume c s).tickOverrun = s.tickOverrun := rfl
@[simp] theorem driveVolume_touch (c : Code2) (s : State) : (driveVolume c s).touch = s.touch := rfl
@[simp] theorem driveVolume_buf (c : Code2) (s : State) : (driveVolume c s).buf = s.buf := rfl
@[simp] theorem driveVolume_snd (c : Code2) (s : State) : (driveVolume c s).snd = { s.snd with toneVol := c } := rfl
@[simp] theorem driveVolume_tx (c : Code2) (s : State) : (driveVolume c s).tx = s.tx := rfl

/-! ### sndSilence -/

@[simp] theorem sndSilence_params (s : State) : (sndSilence s).params = s.params := rfl
@[simp] theorem sndSilence_inputs (s : State) : (sndSilence s).inputs = s.inputs := rfl
@[simp] theorem sndSilence_phase (s : State) : (sndSilence s).phase = s.phase := rfl
@[simp] theorem sndSilence_mode (s : State) : (sndSilence s).mode = s.mode := rfl
@[simp] theorem sndSilence_frame (s : State) : (sndSilence s).frame = s.frame := rfl
@[simp] theorem sndSilence_touched (s : State) : (sndSilence s).touched = s.touched := rfl
@[simp] theorem sndSilence_tickOverrun (s : State) : (sndSilence s).tickOverrun = s.tickOverrun := rfl
@[simp] theorem sndSilence_touch (s : State) : (sndSilence s).touch = s.touch := rfl
@[simp] theorem sndSilence_buf (s : State) : (sndSilence s).buf = s.buf := rfl
@[simp] theorem sndSilence_snd (s : State) : (sndSilence s).snd = { s.snd with active := false, toneFreq := 0#16, toneVol := 0#2 } := rfl
@[simp] theorem sndSilence_tx (s : State) : (sndSilence s).tx = s.tx := rfl

/-! ### loadStep -/

@[simp] theorem loadStep_params (f d : Half) (s : State) : (loadStep f d s).params = s.params := rfl
@[simp] theorem loadStep_inputs (f d : Half) (s : State) : (loadStep f d s).inputs = s.inputs := rfl
@[simp] theorem loadStep_phase (f d : Half) (s : State) : (loadStep f d s).phase = s.phase := rfl
@[simp] theorem loadStep_mode (f d : Half) (s : State) : (loadStep f d s).mode = s.mode := rfl
@[simp] theorem loadStep_frame (f d : Half) (s : State) : (loadStep f d s).frame = s.frame := rfl
@[simp] theorem loadStep_touched (f d : Half) (s : State) : (loadStep f d s).touched = s.touched := rfl
@[simp] theorem loadStep_tickOverrun (f d : Half) (s : State) : (loadStep f d s).tickOverrun = s.tickOverrun := rfl
@[simp] theorem loadStep_touch (f d : Half) (s : State) : (loadStep f d s).touch = s.touch := rfl
@[simp] theorem loadStep_buf (f d : Half) (s : State) : (loadStep f d s).buf = s.buf := rfl
@[simp] theorem loadStep_snd (f d : Half) (s : State) : (loadStep f d s).snd = { s.snd with active := true, freq := f, toneFreq := f, cnt := countdown s.params d, steps := BitVec.ofNat 8 (s.snd.steps.toNat + 1) } := rfl
@[simp] theorem loadStep_tx (f d : Half) (s : State) : (loadStep f d s).tx = s.tx := rfl

/-! ### glideAndCount -/

@[simp] theorem glideAndCount_params (e : Entry) (s : State) : (glideAndCount e s).params = s.params := rfl
@[simp] theorem glideAndCount_inputs (e : Entry) (s : State) : (glideAndCount e s).inputs = s.inputs := rfl
@[simp] theorem glideAndCount_phase (e : Entry) (s : State) : (glideAndCount e s).phase = s.phase := rfl
@[simp] theorem glideAndCount_mode (e : Entry) (s : State) : (glideAndCount e s).mode = s.mode := rfl
@[simp] theorem glideAndCount_frame (e : Entry) (s : State) : (glideAndCount e s).frame = s.frame := rfl
@[simp] theorem glideAndCount_touched (e : Entry) (s : State) : (glideAndCount e s).touched = s.touched := rfl
@[simp] theorem glideAndCount_tickOverrun (e : Entry) (s : State) : (glideAndCount e s).tickOverrun = s.tickOverrun := rfl
@[simp] theorem glideAndCount_touch (e : Entry) (s : State) : (glideAndCount e s).touch = s.touch := rfl
@[simp] theorem glideAndCount_buf (e : Entry) (s : State) : (glideAndCount e s).buf = s.buf := rfl
@[simp] theorem glideAndCount_snd (e : Entry) (s : State) : (glideAndCount e s).snd = { s.snd with freq := addGlide s.snd.freq (entryGlide e), toneFreq := addGlide s.snd.freq (entryGlide e), cnt := BitVec.ofNat 16 (s.snd.cnt.toNat - 1) } := rfl
@[simp] theorem glideAndCount_tx (e : Entry) (s : State) : (glideAndCount e s).tx = s.tx := rfl

/-! ### beginTouch -/

@[simp] theorem beginTouch_params (s : State) : (beginTouch s).params = s.params := rfl
@[simp] theorem beginTouch_inputs (s : State) : (beginTouch s).inputs = s.inputs := rfl
@[simp] theorem beginTouch_phase (s : State) : (beginTouch s).phase = s.phase := rfl
@[simp] theorem beginTouch_mode (s : State) : (beginTouch s).mode = s.mode := rfl
@[simp] theorem beginTouch_frame (s : State) : (beginTouch s).frame = 0#8 := rfl
@[simp] theorem beginTouch_touched (s : State) : (beginTouch s).touched = true := rfl
@[simp] theorem beginTouch_tickOverrun (s : State) : (beginTouch s).tickOverrun = s.tickOverrun := rfl
@[simp] theorem beginTouch_touch (s : State) : (beginTouch s).touch = { s.touch with dbState := 1#2, dur := 1#8 } := rfl
@[simp] theorem beginTouch_buf (s : State) : (beginTouch s).buf = s.buf := rfl
@[simp] theorem beginTouch_snd (s : State) : (beginTouch s).snd = s.snd := rfl
@[simp] theorem beginTouch_tx (s : State) : (beginTouch s).tx = s.tx := rfl

/-! ### captureReading -/

@[simp] theorem captureReading_params (raw : Half) (s : State) : (captureReading raw s).params = s.params := rfl
@[simp] theorem captureReading_inputs (raw : Half) (s : State) : (captureReading raw s).inputs = s.inputs := rfl
@[simp] theorem captureReading_phase (raw : Half) (s : State) : (captureReading raw s).phase = 7#4 := rfl
@[simp] theorem captureReading_mode (raw : Half) (s : State) : (captureReading raw s).mode = s.mode := rfl
@[simp] theorem captureReading_frame (raw : Half) (s : State) : (captureReading raw s).frame = s.frame := rfl
@[simp] theorem captureReading_touched (raw : Half) (s : State) : (captureReading raw s).touched = s.touched := rfl
@[simp] theorem captureReading_tickOverrun (raw : Half) (s : State) : (captureReading raw s).tickOverrun = s.tickOverrun := rfl
@[simp] theorem captureReading_touch (raw : Half) (s : State) : (captureReading raw s).touch = { s.touch with senseVal := calibrated raw s.touch.baseline, senseTmr := 0#20 } := rfl
@[simp] theorem captureReading_buf (raw : Half) (s : State) : (captureReading raw s).buf = s.buf := rfl
@[simp] theorem captureReading_snd (raw : Half) (s : State) : (captureReading raw s).snd = s.snd := rfl
@[simp] theorem captureReading_tx (raw : Half) (s : State) : (captureReading raw s).tx = s.tx := rfl

/-! ### abandonReading -/

@[simp] theorem abandonReading_params (s : State) : (abandonReading s).params = s.params := rfl
@[simp] theorem abandonReading_inputs (s : State) : (abandonReading s).inputs = s.inputs := rfl
@[simp] theorem abandonReading_phase (s : State) : (abandonReading s).phase = 7#4 := rfl
@[simp] theorem abandonReading_mode (s : State) : (abandonReading s).mode = s.mode := rfl
@[simp] theorem abandonReading_frame (s : State) : (abandonReading s).frame = s.frame := rfl
@[simp] theorem abandonReading_touched (s : State) : (abandonReading s).touched = s.touched := rfl
@[simp] theorem abandonReading_tickOverrun (s : State) : (abandonReading s).tickOverrun = s.tickOverrun := rfl
@[simp] theorem abandonReading_touch (s : State) : (abandonReading s).touch = { s.touch with senseVal := 0#16 } := rfl
@[simp] theorem abandonReading_buf (s : State) : (abandonReading s).buf = s.buf := rfl
@[simp] theorem abandonReading_snd (s : State) : (abandonReading s).snd = s.snd := rfl
@[simp] theorem abandonReading_tx (s : State) : (abandonReading s).tx = s.tx := rfl

/-! ### writeLights -/

@[simp] theorem writeLights_params (s : State) (a b : Rgb) : (writeLights s a b).params = s.params := rfl
@[simp] theorem writeLights_inputs (s : State) (a b : Rgb) : (writeLights s a b).inputs = s.inputs := rfl
@[simp] theorem writeLights_phase (s : State) (a b : Rgb) : (writeLights s a b).phase = s.phase := rfl
@[simp] theorem writeLights_mode (s : State) (a b : Rgb) : (writeLights s a b).mode = s.mode := rfl
@[simp] theorem writeLights_frame (s : State) (a b : Rgb) : (writeLights s a b).frame = s.frame := rfl
@[simp] theorem writeLights_touched (s : State) (a b : Rgb) : (writeLights s a b).touched = s.touched := rfl
@[simp] theorem writeLights_tickOverrun (s : State) (a b : Rgb) : (writeLights s a b).tickOverrun = s.tickOverrun := rfl
@[simp] theorem writeLights_touch (s : State) (a b : Rgb) : (writeLights s a b).touch = s.touch := rfl
@[simp] theorem writeLights_buf (s : State) (a b : Rgb) : (writeLights s a b).buf = lightBytes s.params.channelOrder a b s.buf := rfl
@[simp] theorem writeLights_snd (s : State) (a b : Rgb) : (writeLights s a b).snd = s.snd := rfl
@[simp] theorem writeLights_tx (s : State) (a b : Rgb) : (writeLights s a b).tx = s.tx := rfl

/-! ### quietInput -/

@[simp] theorem quietInput_params (s : State) : (quietInput s).params = s.params := by cases h : s.inputs <;> simp [quietInput, h]
@[simp] theorem quietInput_phase (s : State) : (quietInput s).phase = s.phase := by cases h : s.inputs <;> simp [quietInput, h]
@[simp] theorem quietInput_mode (s : State) : (quietInput s).mode = s.mode := by cases h : s.inputs <;> simp [quietInput, h]
@[simp] theorem quietInput_frame (s : State) : (quietInput s).frame = s.frame := by cases h : s.inputs <;> simp [quietInput, h]
@[simp] theorem quietInput_touched (s : State) : (quietInput s).touched = s.touched := by cases h : s.inputs <;> simp [quietInput, h]
@[simp] theorem quietInput_tickOverrun (s : State) : (quietInput s).tickOverrun = s.tickOverrun := by cases h : s.inputs <;> simp [quietInput, h]
@[simp] theorem quietInput_touch (s : State) : (quietInput s).touch = s.touch := by cases h : s.inputs <;> simp [quietInput, h]
@[simp] theorem quietInput_buf (s : State) : (quietInput s).buf = s.buf := by cases h : s.inputs <;> simp [quietInput, h]
@[simp] theorem quietInput_snd (s : State) : (quietInput s).snd = s.snd := by cases h : s.inputs <;> simp [quietInput, h]
@[simp] theorem quietInput_tx (s : State) : (quietInput s).tx = s.tx := by cases h : s.inputs <;> simp [quietInput, h]

/-! ### releaseTouch -/

@[simp] theorem releaseTouch_params (s : State) : (releaseTouch s).params = s.params := by unfold releaseTouch; split <;> rfl
@[simp] theorem releaseTouch_inputs (s : State) : (releaseTouch s).inputs = s.inputs := by unfold releaseTouch; split <;> rfl
@[simp] theorem releaseTouch_phase (s : State) : (releaseTouch s).phase = s.phase := by unfold releaseTouch; split <;> rfl
@[simp] theorem releaseTouch_mode (s : State) : (releaseTouch s).mode = s.mode := by unfold releaseTouch; split <;> rfl
@[simp] theorem releaseTouch_frame (s : State) : (releaseTouch s).frame = s.frame := by unfold releaseTouch; split <;> rfl
@[simp] theorem releaseTouch_touched (s : State) : (releaseTouch s).touched = s.touched := by unfold releaseTouch; split <;> rfl
@[simp] theorem releaseTouch_tickOverrun (s : State) : (releaseTouch s).tickOverrun = s.tickOverrun := by unfold releaseTouch; split <;> rfl
@[simp] theorem releaseTouch_buf (s : State) : (releaseTouch s).buf = s.buf := by unfold releaseTouch; split <;> rfl
@[simp] theorem releaseTouch_snd (s : State) : (releaseTouch s).snd = s.snd := by unfold releaseTouch; split <;> rfl
@[simp] theorem releaseTouch_tx (s : State) : (releaseTouch s).tx = s.tx := by unfold releaseTouch; split <;> rfl

/-! ### calibrationReading -/

@[simp] theorem calibrationReading_params (raw : Half) (s : State) : (calibrationReading raw s).params = s.params := by unfold calibrationReading; split <;> rfl
@[simp] theorem calibrationReading_inputs (raw : Half) (s : State) : (calibrationReading raw s).inputs = s.inputs := by unfold calibrationReading; split <;> rfl
@[simp] theorem calibrationReading_mode (raw : Half) (s : State) : (calibrationReading raw s).mode = s.mode := by unfold calibrationReading; split <;> rfl
@[simp] theorem calibrationReading_frame (raw : Half) (s : State) : (calibrationReading raw s).frame = s.frame := by unfold calibrationReading; split <;> rfl
@[simp] theorem calibrationReading_touched (raw : Half) (s : State) : (calibrationReading raw s).touched = s.touched := by unfold calibrationReading; split <;> rfl
@[simp] theorem calibrationReading_tickOverrun (raw : Half) (s : State) : (calibrationReading raw s).tickOverrun = s.tickOverrun := by unfold calibrationReading; split <;> rfl
@[simp] theorem calibrationReading_buf (raw : Half) (s : State) : (calibrationReading raw s).buf = s.buf := by unfold calibrationReading; split <;> rfl
@[simp] theorem calibrationReading_snd (raw : Half) (s : State) : (calibrationReading raw s).snd = s.snd := by unfold calibrationReading; split <;> rfl
@[simp] theorem calibrationReading_tx (raw : Half) (s : State) : (calibrationReading raw s).tx = s.tx := by unfold calibrationReading; split <;> rfl

/-! ### noteOverrun -/

@[simp] theorem noteOverrun_params (s t : State) : (noteOverrun s t).params = t.params := by unfold noteOverrun; split <;> rfl
@[simp] theorem noteOverrun_inputs (s t : State) : (noteOverrun s t).inputs = t.inputs := by unfold noteOverrun; split <;> rfl
@[simp] theorem noteOverrun_phase (s t : State) : (noteOverrun s t).phase = t.phase := by unfold noteOverrun; split <;> rfl
@[simp] theorem noteOverrun_mode (s t : State) : (noteOverrun s t).mode = t.mode := by unfold noteOverrun; split <;> rfl
@[simp] theorem noteOverrun_frame (s t : State) : (noteOverrun s t).frame = t.frame := by unfold noteOverrun; split <;> rfl
@[simp] theorem noteOverrun_touched (s t : State) : (noteOverrun s t).touched = t.touched := by unfold noteOverrun; split <;> rfl
@[simp] theorem noteOverrun_touch (s t : State) : (noteOverrun s t).touch = t.touch := by unfold noteOverrun; split <;> rfl
@[simp] theorem noteOverrun_buf (s t : State) : (noteOverrun s t).buf = t.buf := by unfold noteOverrun; split <;> rfl
@[simp] theorem noteOverrun_snd (s t : State) : (noteOverrun s t).snd = t.snd := by unfold noteOverrun; split <;> rfl
@[simp] theorem noteOverrun_tx (s t : State) : (noteOverrun s t).tx = t.tx := by unfold noteOverrun; split <;> rfl

/-! ### commitCycle -/

@[simp] theorem commitCycle_params (s t u : State) : (commitCycle s t u).params = t.params := by unfold commitCycle; split <;> rfl
@[simp] theorem commitCycle_inputs (s t u : State) : (commitCycle s t u).inputs = t.inputs := by unfold commitCycle; split <;> rfl
@[simp] theorem commitCycle_phase (s t u : State) : (commitCycle s t u).phase = t.phase := by unfold commitCycle; split <;> rfl
@[simp] theorem commitCycle_mode (s t u : State) : (commitCycle s t u).mode = t.mode := by unfold commitCycle; split <;> rfl
@[simp] theorem commitCycle_frame (s t u : State) : (commitCycle s t u).frame = t.frame := by unfold commitCycle; split <;> rfl
@[simp] theorem commitCycle_touched (s t u : State) : (commitCycle s t u).touched = t.touched := by unfold commitCycle; split <;> rfl
@[simp] theorem commitCycle_tickOverrun (s t u : State) : (commitCycle s t u).tickOverrun = t.tickOverrun := by unfold commitCycle; split <;> rfl
@[simp] theorem commitCycle_touch (s t u : State) : (commitCycle s t u).touch = t.touch := by unfold commitCycle; split <;> rfl
@[simp] theorem commitCycle_buf (s t u : State) : (commitCycle s t u).buf = t.buf := by unfold commitCycle; split <;> rfl
@[simp] theorem commitCycle_snd (s t u : State) : (commitCycle s t u).snd = t.snd := by unfold commitCycle; split <;> rfl

@[simp] theorem noteOverrun_tickOverrun (s t : State) :
    (noteOverrun s t).tickOverrun = (t.tickOverrun || busy s) := by
  unfold noteOverrun; split <;> simp_all

@[simp] theorem commitCycle_tx (s t u : State) : (commitCycle s t u).tx = if txIsIdle s then t.tx else u.tx := by
  unfold commitCycle; split <;> simp_all

/-- Two states with the same fields are the same state. -/
theorem state_ext {s t : State} (h1 : s.params = t.params) (h2 : s.inputs = t.inputs) (h3 : s.phase = t.phase)
    (h4 : s.mode = t.mode) (h5 : s.frame = t.frame) (h6 : s.touched = t.touched) (h7 : s.tickOverrun = t.tickOverrun)
    (h8 : s.touch = t.touch) (h9 : s.buf = t.buf) (h10 : s.snd = t.snd) (h11 : s.tx = t.tx) : s = t := by
  cases s; cases t; simp_all

end Sys2Proof.Machine
end

