-- ==== Sys2Proof/Laws/Ops.lean ====
section
/-! SUPPORT. What each shared operation can do, said once: if it answers a next state, then one of the cases of its rule holds.
Later proofs cite these lemmas and do not unfold the operations. -/

set_option Elab.async false

namespace Sys2Proof.Machine

/-! ## Sequencing -/

@[simp] theorem andThen_next (s : State) (k : State → Result) : andThen (.next s) k = k s := rfl
@[simp] theorem andThen_fault (f : Fault) (k : State → Result) : andThen (.fault f) k = .fault f := rfl
@[simp] theorem andThen_refused (q : Refusal) (k : State → Result) : andThen (.refused q) k = .refused q := rfl

/-- A sequence answers a next state through an intermediate one. -/
theorem andThen_eq_next {r : Result} {k : State → Result} {t : State} :
    andThen r k = .next t ↔ ∃ s, r = .next s ∧ k s = .next t := by
  cases r <;> simp [andThen]

/-- A lookup in the sound ROM that answers a next state found an entry. -/
theorem withRomEntry_eq_next {s : State} {i : Nat} {k : Entry → Result} {t : State} :
    withRomEntry s i k = .next t ↔ i < s.params.sndRomDepth ∧ ∃ e, s.params.sndRom[i]? = some e ∧ k e = .next t := by
  unfold withRomEntry
  split
  · rename_i h
    cases hr : s.params.sndRom[i]? <;> simp [h]
  · simp_all

/-- A lookup of an entry the ROM holds. -/
theorem withRomEntry_found {s : State} {i : Nat} {e : Entry} (k : Entry → Result) (h : i < s.params.sndRomDepth)
    (he : s.params.sndRom[i]? = some e) : withRomEntry s i k = k e := by
  simp [withRomEntry, h, he]

/-! ## The serializer: it writes `tx` alone -/

theorem beginSymbol_eq (b : Bool) (s : State) :
    beginSymbol b s = .next { s with tx := { s.tx with phase := 1, cnt := highCycles s.params b - 1 } } := by
  cases b <;> rfl

/-- TX_LOAD answers a next state exactly when the serializer is idle. -/
theorem txLoad_eq_next {s t : State} :
    txLoad s = .next t ↔ txIsIdle s = true ∧
      t = { s with tx := ⟨1, highCycles s.params (frameBit (packFrame s) 0) - 1, 0, packFrame s⟩ } := by
  unfold txLoad
  split
  · rename_i h
    simp [h, beginSymbol_eq, eq_comm]
  · simp_all

theorem execTxHigh_eq_next {s t : State} :
    execTxHigh s = .next t ↔ s.tx.bit.toNat ≤ 47 ∧
      t = { s with tx := if s.tx.cnt = 0
              then { s.tx with phase := 2, cnt := lowCycles s.params (frameBit s.tx.sh s.tx.bit.toNat) - 1 }
              else { s.tx with cnt := s.tx.cnt - 1 } } := by
  unfold execTxHigh
  split
  · rename_i h
    split <;> simp_all [eq_comm]
  · simp_all

theorem execTxLow_eq_next {s t : State} :
    execTxLow s = .next t ↔ s.tx.bit.toNat ≤ 47 ∧
      t = { s with tx := if s.tx.cnt = 0
              then if s.tx.bit.toNat = 47 then { s.tx with phase := 3, cnt := s.params.latchCyc - 1 }
                else { s.tx with
                  phase := 1
                  cnt := highCycles s.params (frameBit s.tx.sh (s.tx.bit.toNat + 1)) - 1
                  bit := BitVec.ofNat 6 (s.tx.bit.toNat + 1) }
              else { s.tx with cnt := s.tx.cnt - 1 } } := by
  unfold execTxLow
  split
  · rename_i h
    by_cases hc : s.tx.cnt = 0
    · by_cases hb : s.tx.bit.toNat = 47
      · simp only [hc, hb, ↓reduceIte, execLatch, Host.Outcome.next.injEq, Nat.le_refl, true_and]
        exact eq_comm
      · simp only [hc, hb, h, ↓reduceIte, beginSymbol_eq, Host.Outcome.next.injEq, true_and]
        exact eq_comm
    · simp only [hc, h, ↓reduceIte, Host.Outcome.next.injEq, true_and]
      exact eq_comm
  · simp_all

theorem execTxLatch_eq (s : State) :
    execTxLatch s = .next { s with tx := if s.tx.cnt = 0 then { s.tx with phase := 0 }
                                         else { s.tx with cnt := s.tx.cnt - 1 } } := by
  unfold execTxLatch
  split <;> simp_all

/-- The serializer's operation writes `tx` alone (10_state.md R45). -/
theorem serializerOp_frame {s t : State} (h : serializerOp s = .next t) : t = { s with tx := t.tx } := by
  unfold serializerOp at h
  split at h
  · simp only [execTxIdle, Host.Outcome.next.injEq] at h; subst h; rfl
  · rw [execTxHigh_eq_next] at h; rw [h.2]
  · rw [execTxLow_eq_next] at h; rw [h.2]
  · simp only [execTxLatch_eq, Host.Outcome.next.injEq] at h; subst h; rfl

/-- An idle serializer writes nothing (41_light_transmitter.md R177). -/
theorem serializerOp_idle {s : State} (h : txIsIdle s = true) : serializerOp s = .next s := by
  simp only [txIsIdle, beq_iff_eq] at h
  simp [serializerOp, h, execTxIdle]

/-! ## The sound sequencer: it writes `snd` alone -/

theorem applyVolume_eq_next {c : Code2} {s t : State} :
    applyVolume c s = .next t ↔ c ≠ 3#2 ∧ t = driveVolume c s := by
  have hc : c = 0#2 ∨ c = 1#2 ∨ c = 2#2 ∨ c = 3#2 := by revert c; decide
  rcases hc with rfl | rfl | rfl | rfl <;>
    simp [applyVolume, execVolOff, execVolSoft, execVolLoud, execVolReserved3, eq_comm]

/-- What entering a step can do (44_sound_sequencer.md R267, R272). -/
theorem execStepEntry_eq_next {f d g : Half} {v : Code2} {r : BitVec 14} {s t : State} :
    execStepEntry f d g v r s = .next t ↔
      (d = 0#16 ∧ t = sndSilence s) ∨
      (d ≠ 0#16 ∧ s.snd.steps.toNat = s.params.sndMaxSteps ∧ t = sndSilence (setSndErr s)) ∨
      (d ≠ 0#16 ∧ s.snd.steps.toNat ≠ s.params.sndMaxSteps ∧ v ≠ 3#2 ∧ t = driveVolume v (loadStep f d s)) := by
  unfold execStepEntry
  by_cases hd : d = 0#16
  · simp only [↓reduceIte, Host.Outcome.next.injEq, @eq_comm _ (sndSilence s), hd, true_and, ne_eq, not_true_eq_false,
      false_and, or_false]
  · by_cases hm : s.snd.steps.toNat = s.params.sndMaxSteps
    · simp only [↓reduceIte, Host.Outcome.next.injEq, @eq_comm _ (sndSilence (setSndErr s)), hd, ne_eq,
        not_false_eq_true, true_and, false_and, or_false, false_or, hm, not_true_eq_false]
    · simp only [↓reduceIte, applyVolume_eq_next, hd, hm, ne_eq, not_false_eq_true, true_and, false_and,
        false_or]

/-- What SndEnter on an entry can do (44_sound_sequencer.md R267). -/
theorem enterEntry_eq_next {e : Entry} {s t : State} :
    enterEntry e s = .next t ↔
      (isSentinel e = true ∧ t = sndSilence s) ∨
      (isSentinel e = false ∧ s.snd.steps.toNat = s.params.sndMaxSteps ∧ t = sndSilence (setSndErr s)) ∨
      (isSentinel e = false ∧ s.snd.steps.toNat ≠ s.params.sndMaxSteps ∧ entryVol e ≠ 3#2 ∧
        t = driveVolume (entryVol e) (loadStep (entryFreq e) (entryDur e) s)) := by
  unfold enterEntry
  split
  · rename_i h
    simp [h, execSentinel, eq_comm]
  · rename_i h
    have hd : entryDur e ≠ 0#16 := by simpa [isSentinel] using h
    have hs : isSentinel e = false := by simpa using h
    simp [hs, execStepEntry_eq_next, hd]

/-- SndEnter on an entry writes `snd` alone. -/
theorem enterEntry_frame {e : Entry} {s t : State} (h : enterEntry e s = .next t) : t = { s with snd := t.snd } := by
  rcases enterEntry_eq_next.1 h with ⟨-, rfl⟩ | ⟨-, -, rfl⟩ | ⟨-, -, -, rfl⟩ <;> rfl

/-- SndEnter(i) writes `snd` alone. -/
theorem sndEnter_frame {i : Nat} {s t : State} (h : sndEnter i s = .next t) : t = { s with snd := t.snd } := by
  obtain ⟨-, e, -, h⟩ := withRomEntry_eq_next.1 h
  exact enterEntry_frame h

/-- SndStart(p) writes `snd` alone. -/
theorem sndStart_frame {p : Nat} {s t : State} (h : sndStart p s = .next t) : t = { s with snd := t.snd } := by
  unfold sndStart at h
  split at h
  · have := sndEnter_frame h; rw [this]
  · simp at h

/-- SndAdvance() writes `snd` alone. -/
theorem sndAdvance_frame {s t : State} (h : sndAdvance s = .next t) : t = { s with snd := t.snd } := by
  unfold sndAdvance at h
  split at h
  · simp only [Host.Outcome.next.injEq] at h; subst h; rfl
  · have := sndEnter_frame h; rw [this]

/-- SndStep() writes `snd` alone. -/
theorem sndStep_frame {s t : State} (h : sndStep s = .next t) : t = { s with snd := t.snd } := by
  obtain ⟨-, e, -, h⟩ := withRomEntry_eq_next.1 h
  split at h
  · exact sndAdvance_frame h
  · split at h
    · have := sndAdvance_frame h; rw [this]; rfl
    · simp only [Host.Outcome.next.injEq] at h; subst h; rfl

/-- PH_SND_STEP writes `snd` and the phase. -/
theorem execPhSndStep_frame {s t : State} (h : execPhSndStep s = .next t) :
    t = { s with snd := t.snd, phase := 2 } := by
  obtain ⟨u, hu, h⟩ := andThen_eq_next.1 h
  simp only [Host.Outcome.next.injEq] at h
  subst h
  split at hu
  · have := sndStep_frame hu; rw [this]; rfl
  · simp only [Host.Outcome.next.injEq] at hu; subst hu; rfl

/-! ## The animation engine: RENDER -/

/-- A mode lookup that answers a next state found the mode's behaviour at the frame. -/
theorem withMode_eq_next {s : State} {k : HsvPair → Nat → Result} {t : State} :
    withMode s k = .next t ↔ s.mode.toNat < s.params.modeCount ∧ ∃ m n pair,
      s.params.modeTable[s.mode.toNat]? = some m ∧ s.params.touchFrames[s.mode.toNat]? = some n ∧
      behaviourAt (if s.touched then m.touched else m.idle) s.frame = some pair ∧ k pair n = .next t := by
  unfold withMode
  split
  · rename_i h
    simp only [h, true_and]
    constructor
    · intro hk
      split at hk
      · rename_i m n hm hn
        split at hk
        · rename_i pair hp
          exact ⟨m, n, pair, hm, hn, hp, hk⟩
        · simp at hk
      · simp at hk
    · rintro ⟨m, n, pair, hm, hn, hp, hk⟩
      simp [hm, hn, hp, hk]
  · simp_all

/-- What RENDER can do (43_animation_engine.md R232). -/
theorem execPhRender_eq_next {s t : State} :
    execPhRender s = .next t ↔ s.params.hueLegal = true ∧ s.mode.toNat < s.params.modeCount ∧ ∃ m n pair,
      s.params.modeTable[s.mode.toNat]? = some m ∧ s.params.touchFrames[s.mode.toNat]? = some n ∧
      behaviourAt (if s.touched then m.touched else m.idle) s.frame = some pair ∧
      t = { s with
        buf := lightBytes s.params.channelOrder (hsvToRgb s.params pair.left) (hsvToRgb s.params pair.right) s.buf
        touched := touchedAfterRender s n
        phase := 3 } := by
  unfold execPhRender
  split
  · rename_i h
    rw [withMode_eq_next]
    simp only [h, true_and, Host.Outcome.next.injEq, writeLights, @eq_comm _ t]
  · simp_all

/-! ## The debouncer and the sense requests -/

/-- A touch start's program writes `snd` alone. -/
theorem startBoop_frame {s t : State} (h : startBoop s = .next t) : t = { s with snd := t.snd } := by
  unfold startBoop at h
  split at h
  · split at h
    · exact sndStart_frame h
    · simp only [Host.Outcome.next.injEq] at h; subst h; rfl
    · simp at h
  · simp at h

/-- What DB_IDLE can do (42_touch_debouncer.md R207). -/
theorem execDbIdle_next {s t : State} (h : execDbIdle s = .next t) :
    (overThreshold s = false ∧ t = s) ∨
      (overThreshold s = true ∧ startBoop (beginTouch s) = .next t ∧ t = { beginTouch s with snd := t.snd }) := by
  unfold execDbIdle at h
  split at h
  · rename_i ho
    exact .inr ⟨ho, h, startBoop_frame h⟩
  · simp_all

/-- What DB_TOUCHING can do (42_touch_debouncer.md R208-R210). -/
theorem execDbTouching_next {s t : State} (h : execDbTouching s = .next t) :
    (overThreshold s = false ∧ t = releaseTouch s) ∨
      (overThreshold s = true ∧ s.touch.dur.toNat + 1 ≠ s.params.longTouch ∧
        t = { s with touch := { s.touch with dur := BitVec.ofNat 8 (s.touch.dur.toNat + 1) } }) ∨
      (overThreshold s = true ∧ s.touch.dur.toNat + 1 = s.params.longTouch ∧ modeAdvance s = .next t ∧
        t = { s with
          mode := BitVec.ofNat 8 ((s.mode.toNat + 1) % s.params.modeCount)
          touched := false
          touch := { s.touch with dur := 0 }
          snd := t.snd }) := by
  unfold execDbTouching at h
  split at h
  · rename_i ho
    unfold continueTouch at h
    split at h
    · rename_i hd
      exact .inr (.inr ⟨ho, hd, h, sndStart_frame h⟩)
    · rename_i hd
      simp only [Host.Outcome.next.injEq] at h
      exact .inr (.inl ⟨ho, hd, h.symm⟩)
  · simp_all

/-- A request cycle without an ack does one of three things (42_touch_debouncer.md R212). -/
theorem senseTimeoutOp_cases (s : State) (expire : State → State) :
    (s.params.senseTimeoutCyc = none ∧ senseTimeoutOp s expire = s) ∨
      (∃ n, s.params.senseTimeoutCyc = some n ∧ s.touch.senseTmr.toNat = n - 1 ∧
        senseTimeoutOp s expire =
          expire { s with touch := { s.touch with senseTimeout := true, senseTmr := 0 } }) ∨
      (∃ n, s.params.senseTimeoutCyc = some n ∧ s.touch.senseTmr.toNat ≠ n - 1 ∧
        senseTimeoutOp s expire =
          { s with touch := { s.touch with senseTmr := BitVec.ofNat 20 (s.touch.senseTmr.toNat + 1) } }) := by
  unfold senseTimeoutOp
  cases h : s.params.senseTimeoutCyc with
  | none => simp
  | some n =>
    by_cases hn : s.touch.senseTmr.toNat = n - 1
    · refine .inr (.inl ⟨n, rfl, hn, ?_⟩); simp [hn, setSenseTimeout]
    · refine .inr (.inr ⟨n, rfl, hn, ?_⟩); simp [hn]

/-! ## The cycle -/

/-- A check that lets a next state pass found a legal record and a state that keeps R45. -/
theorem admitted_eq_next {s t : State} {r : Result} :
    admitted s r = .next t ↔ s.params.legal = true ∧ s.phase.toNat < 11 ∧ ¬(s.phase = 7#4 ∧ s.touch.dbState = 3#2) ∧
      s.invariant = true ∧ r = .next t := by
  unfold admitted
  split
  · split
    · simp_all
    · split
      · simp_all
      · split <;> simp_all
  · simp_all

/-- A state that the checks let pass runs the cycle. -/
theorem admitted_of_legal {s : State} {r : Result} (hl : s.params.legal = true) (hi : s.invariant = true) :
    admitted s r = r := by
  have h : codesLegal s = true := by
    simp only [State.invariant, Bool.and_eq_true] at hi; exact hi.1.1
  simp only [codesLegal, Bool.and_eq_true, decide_eq_true_eq, bne_iff_ne] at h
  have h1 : ¬ 11 ≤ s.phase.toNat := by omega
  simp [admitted, hl, h1, h.1.1.1.2, hi]

/-- What a cycle can do: both operations answer, and their writes take effect together. -/
theorem runCycle_eq_next {v : InVec} {s t : State} :
    runCycle v s = .next t ↔ s.params.legal = true ∧ s.phase.toNat < 11 ∧
      ¬(s.phase = 7#4 ∧ s.touch.dbState = 3#2) ∧ s.invariant = true ∧ ∃ a b,
        dispatcherOp (driveInput s v) = .next a ∧ serializerOp (driveInput s v) = .next b ∧
        t = popInput (commitCycle (driveInput s v) a b) := by
  simp only [runCycle, bothOps, admitted_eq_next, andThen_eq_next, Host.Outcome.next.injEq]
  constructor
  · rintro ⟨h1, h2, h3, h4, x, ⟨a, ha, b, hb, rfl⟩, rfl⟩
    exact ⟨h1, h2, h3, h4, a, b, ha, hb, rfl⟩
  · rintro ⟨h1, h2, h3, h4, a, b, ha, hb, rfl⟩
    exact ⟨h1, h2, h3, h4, _, ⟨a, ha, b, hb, rfl⟩, rfl⟩

/-- The bits of a vector assembled from its fields. -/
theorem getLsbD_inputVector (a b c : Bool) (d : Half) (i : Nat) :
    (inputVector a b c d).getLsbD i =
      if i < 16 then d.getLsbD i else if i = 16 then c else if i = 17 then b else if i = 18 then a else false := by
  simp only [inputVector, BitVec.getLsbD_setWidth, BitVec.getLsbD_append, BitVec.getLsbD_ofBool]
  by_cases h : i < 16
  · simp [h]; omega
  · have h' : i = 16 ∨ i = 17 ∨ i = 18 ∨ 19 ≤ i := by omega
    rcases h' with rfl | rfl | rfl | h'
    · simp
    · simp
    · simp
    · have h1 : ¬ i < 19 := by omega
      have h2 : i ≠ 16 := by omega
      have h3 : i ≠ 17 := by omega
      have h4 : i ≠ 18 := by omega
      simp [h, h1, h2, h3, h4]

@[simp] theorem inRst_inputVector (a b c : Bool) (d : Half) : inRst (inputVector a b c d) = a := by
  rw [inRst, getLsbD_inputVector]; rfl

@[simp] theorem inTick_inputVector (a b c : Bool) (d : Half) : inTick (inputVector a b c d) = b := by
  rw [inTick, getLsbD_inputVector]; rfl

@[simp] theorem inAck_inputVector (a b c : Bool) (d : Half) : inAck (inputVector a b c d) = c := by
  rw [inAck, getLsbD_inputVector]; rfl

@[simp] theorem inData_inputVector (a b c : Bool) (d : Half) : inData (inputVector a b c d) = d := by
  apply BitVec.eq_of_getLsbD_eq
  intro i hi
  rw [inData, BitVec.getLsbD_extractLsb', Nat.zero_add, getLsbD_inputVector]
  simp [hi]

/-- The vector with the same fields is the same vector. -/
theorem inputVector_fields (v : InVec) : inputVector (inRst v) (inTick v) (inAck v) (inData v) = v := by
  apply BitVec.eq_of_getLsbD_eq
  intro i hi
  rw [getLsbD_inputVector]
  by_cases h : i < 16
  · rw [if_pos h, inData, BitVec.getLsbD_extractLsb']
    simp [h]
  · have h' : i = 16 ∨ i = 17 ∨ i = 18 := by omega
    rcases h' with rfl | rfl | rfl <;> rfl

/-- A step is a reset, or one cycle with the current input vector and the overrun flag of a tick that is not accepted. -/
theorem step_cases (s : State) :
    (inRst (currentIn s) = true ∧
      step s = if s.params.legal then .next (popInput (resetState s)) else .refused .illegalParameters) ∨
    (inRst (currentIn s) = false ∧
      step s = andThen (runCycle (currentIn s) s)
        (fun t => .next (if inTick (currentIn s) then noteOverrun s t else t))) := by
  have hv := inputVector_fields (currentIn s)
  cases hr : inRst (currentIn s) with
  | true => exact .inl ⟨rfl, by simp [step, fetch, decodeIn, hr, exec, execReset]⟩
  | false =>
    refine .inr ⟨rfl, ?_⟩
    rw [hr] at hv
    cases ht : inTick (currentIn s) with
    | true =>
      rw [ht] at hv
      simp [step, fetch, decodeIn, hr, ht, exec, execTick, hv]
    | false =>
      rw [ht] at hv
      have hn : ∀ r : Result, andThen r (fun t => .next t) = r := by intro r; cases r <;> rfl
      cases ha : inAck (currentIn s) with
      | true => rw [ha] at hv; simp [step, fetch, decodeIn, hr, ht, ha, exec, execSenseAck, hv, hn]
      | false => rw [ha] at hv; simp [step, fetch, decodeIn, hr, ht, ha, exec, execNop, hv, hn]

end Sys2Proof.Machine
end

