-- ==== Sys2Proof/Laws/PerInstr.lean ====
section
/-! SUPPORT. Facts about every instruction, one lemma per constructor. -/

set_option Elab.async false

namespace Sys2Proof.Laws

/-- The encoder's word fits the width of the instruction's format (30_encoding.md R100). -/
def EncodeFits.Statement (i : Instr) : Prop := encode i < 2 ^ i.format.width

theorem EncodeFits.reset (a : BitVec 18) : EncodeFits.Statement (.reset a) := by
  have := a.isLt
  simp only [EncodeFits.Statement, encode, Instr.format, Format.width]; omega
theorem EncodeFits.tick (a : Bool) (b : Half) : EncodeFits.Statement (.tick a b) := BitVec.isLt _
theorem EncodeFits.senseAck (a : Half) : EncodeFits.Statement (.senseAck a) := BitVec.isLt _
theorem EncodeFits.nop (a : Half) : EncodeFits.Statement (.nop a) := BitVec.isLt _
theorem EncodeFits.phIdle : EncodeFits.Statement .phIdle := by
  unfold EncodeFits.Statement; decide
theorem EncodeFits.phSndStep : EncodeFits.Statement .phSndStep := by
  unfold EncodeFits.Statement; decide
theorem EncodeFits.phRender : EncodeFits.Statement .phRender := by
  unfold EncodeFits.Statement; decide
theorem EncodeFits.phTxStart : EncodeFits.Statement .phTxStart := by
  unfold EncodeFits.Statement; decide
theorem EncodeFits.phTxWait : EncodeFits.Statement .phTxWait := by
  unfold EncodeFits.Statement; decide
theorem EncodeFits.phFrameInc : EncodeFits.Statement .phFrameInc := by
  unfold EncodeFits.Statement; decide
theorem EncodeFits.phSenseWait : EncodeFits.Statement .phSenseWait := by
  unfold EncodeFits.Statement; decide
theorem EncodeFits.phDebounce : EncodeFits.Statement .phDebounce := by
  unfold EncodeFits.Statement; decide
theorem EncodeFits.phCalWait : EncodeFits.Statement .phCalWait := by
  unfold EncodeFits.Statement; decide
theorem EncodeFits.phCalGap : EncodeFits.Statement .phCalGap := by
  unfold EncodeFits.Statement; decide
theorem EncodeFits.phCalDone : EncodeFits.Statement .phCalDone := by
  unfold EncodeFits.Statement; decide
theorem EncodeFits.phReserved11 : EncodeFits.Statement .phReserved11 := by
  unfold EncodeFits.Statement; decide
theorem EncodeFits.phReserved12 : EncodeFits.Statement .phReserved12 := by
  unfold EncodeFits.Statement; decide
theorem EncodeFits.phReserved13 : EncodeFits.Statement .phReserved13 := by
  unfold EncodeFits.Statement; decide
theorem EncodeFits.phReserved14 : EncodeFits.Statement .phReserved14 := by
  unfold EncodeFits.Statement; decide
theorem EncodeFits.phReserved15 : EncodeFits.Statement .phReserved15 := by
  unfold EncodeFits.Statement; decide
theorem EncodeFits.txIdle : EncodeFits.Statement .txIdle := by
  unfold EncodeFits.Statement; decide
theorem EncodeFits.txHigh : EncodeFits.Statement .txHigh := by
  unfold EncodeFits.Statement; decide
theorem EncodeFits.txLow : EncodeFits.Statement .txLow := by
  unfold EncodeFits.Statement; decide
theorem EncodeFits.txLatch : EncodeFits.Statement .txLatch := by
  unfold EncodeFits.Statement; decide
theorem EncodeFits.dbIdle : EncodeFits.Statement .dbIdle := by
  unfold EncodeFits.Statement; decide
theorem EncodeFits.dbTouching : EncodeFits.Statement .dbTouching := by
  unfold EncodeFits.Statement; decide
theorem EncodeFits.dbHoldoff : EncodeFits.Statement .dbHoldoff := by
  unfold EncodeFits.Statement; decide
theorem EncodeFits.dbReserved3 : EncodeFits.Statement .dbReserved3 := by
  unfold EncodeFits.Statement; decide
theorem EncodeFits.volOff : EncodeFits.Statement .volOff := by
  unfold EncodeFits.Statement; decide
theorem EncodeFits.volSoft : EncodeFits.Statement .volSoft := by
  unfold EncodeFits.Statement; decide
theorem EncodeFits.volLoud : EncodeFits.Statement .volLoud := by
  unfold EncodeFits.Statement; decide
theorem EncodeFits.volReserved3 : EncodeFits.Statement .volReserved3 := by
  unfold EncodeFits.Statement; decide
theorem EncodeFits.sentinel (a : Half) (b : Half) (c : Code2) (d : BitVec 14) : EncodeFits.Statement (.sentinel a b c d) := BitVec.isLt _
theorem EncodeFits.stepEntry (a : Half) (b : Half) (c : Half) (d : Code2) (e : BitVec 14) : EncodeFits.Statement (.stepEntry a b c d e) := BitVec.isLt _
theorem EncodeFits.bit0 : EncodeFits.Statement .bit0 := by
  unfold EncodeFits.Statement; decide
theorem EncodeFits.bit1 : EncodeFits.Statement .bit1 := by
  unfold EncodeFits.Statement; decide
theorem EncodeFits.latch : EncodeFits.Statement .latch := by
  unfold EncodeFits.Statement; decide +kernel

end Sys2Proof.Laws
end

