-- ==== Sys2Proof/Machine/Stimulus.lean ====
section
/-! DEFINITION. The stimulus script of 30_encoding.md R117: a test notation that drives the block's inputs cycle by cycle, and the
end state of a run (45_tick_dispatcher.md R307; DESIGN CHOICE, log 21). No rule of the hardware depends on it. -/

namespace Sys2Proof.Machine

/-- One line of a script (R117). -/
inductive StimulusLine where
  /-- `reset`. -/
  | reset
  /-- `cal R0 .. R9`. -/
  | cal (readings : List Half)
  /-- `tick` or `tick R`. -/
  | tick (reading : Option Half)
  /-- `tick xN` or `tick xN R`. -/
  | ticks (n : Nat) (reading : Option Half)
deriving DecidableEq, Repr

/-- What a script does next: one reset cycle, one calibration answer, or one tick with the answer it may ask for. -/
inductive StimulusAct where
  | reset
  | answer (reading : Half)
  | tick (reading : Option Half)
deriving DecidableEq, Repr

/-- The acts of a line. -/
def actsOfLine : StimulusLine → List StimulusAct
  | .reset => [.reset]
  | .cal readings => readings.map .answer
  | .tick r => [.tick r]
  | .ticks n r => List.replicate n (.tick r)

/-- The acts of a script. -/
def actsOf (script : List StimulusLine) : List StimulusAct := script.flatMap actsOfLine

/-- The acts still to come in a cycle: a tick that is under way is over once the dispatcher is IDLE again. -/
def settleActs (acts : List StimulusAct) (waiting : Bool) (s : State) : List StimulusAct × Bool :=
  if waiting && inIdle s then (acts.tail, false) else (acts, waiting)

/-- The input vector of a cycle, the acts after it, and whether a tick is under way. -/
def stimulusCycle (acts : List StimulusAct) (waiting : Bool) (s : State) : InVec × List StimulusAct × Bool :=
  match acts with
  | [] => (0, [], false)
  | .reset :: rest => (inputVector true false false 0, rest, false)
  | .answer r :: rest =>
    if s.outputs.senseReq then (inputVector false false true r, rest, false) else (0, acts, false)
  | .tick r :: rest =>
    if waiting then
      match r with
      | some d => if s.outputs.senseReq then (inputVector false false true d, acts, true) else (0, acts, true)
      | none => (0, acts, true)
    else if inIdle s then (inputVector false true false 0, .tick r :: rest, true)
    else (0, acts, false)

/-- A script run for at most `fuel` cycles: the first quiescent state after the last act (45_tick_dispatcher.md R307), a stop, or
none where the cycles run out. -/
def runActs (fuel : Nat) (acts : List StimulusAct) (waiting : Bool) (s : State) : Option Result :=
  match fuel with
  | 0 => none
  | fuel + 1 =>
    let now := settleActs acts waiting s
    if now.1.isEmpty && quiescent s then some (.next s)
    else
      let cycle := stimulusCycle now.1 now.2 s
      match step (driveInput s cycle.1) with
      | .next t => runActs fuel cycle.2.1 cycle.2.2 t
      | .fault f => some (.fault f)
      | .refused q => some (.refused q)

end Sys2Proof.Machine
end

