-- ==== Sys2Proof/Tests/Slice0.lean ====
section
/-! SUPPORT. Tests. Expected values come from spec/95_test_vectors.md and from the examples in the rules; the name or the
comment of a test says which. The witnesses at the end show that the hypotheses of each obligation can be met. -/

set_option Elab.async false

namespace Sys2Proof.Tests

open Sys2Proof.Machine

/-! ## Helpers -/

/-- What the decoder reads, or `none` where it refuses. -/
def decodes (f : Format) (w : Nat) : Option Instr := (decode f w).toOption

/-- A field of the state an outcome answers. -/
def after {α : Type} (r : Result) (f : State → α) : Option α :=
  match r with
  | .next t => some (f t)
  | .fault _ => none
  | .refused _ => none

/-- The outcome is a next state with a property. -/
def holds (r : Result) (p : State → Bool) : Bool :=
  match r with
  | .next t => p t
  | .fault _ => false
  | .refused _ => false

/-- The idle state after a calibration with ten readings of 100, as the test programs start from. -/
def booted : State :=
  { State.reset with phase := 0, touch := { Touch.reset with baseline := 100, calCnt := 10, calSum := 1000 } }

/-- `booted` in another phase. -/
def inPhase (p : PhaseCode) : State := { booted with phase := p }

/-- `booted` in DEBOUNCE with a debouncer state, a duration, a hold-off count and a reading. -/
def sensing (c : Code2) (dur hold : BitVec 8) (reading : Half) : State :=
  { inPhase 7 with touch := { booted.touch with dbState := c, dur := dur, hold := hold, senseVal := reading } }

/-- `booted` with program 0 just started: entry 0, countdown 5. -/
def sounding : State := { booted with snd := ⟨true, 0, 1, 5, 440, 440, 1, false⟩ }

/-- `booted` in TX_WAIT with the serializer in a phase, a count and a bit of a frame `08 00 08 08 00 08`. -/
def sending (p : Code2) (cnt : Nat) (bit : BitVec 6) : State :=
  { inPhase 4 with tx := ⟨p, cnt, bit, 0x080008080008⟩ }

/-- `booted` with other parameters. -/
def under (p : Params) : State := { booted with params := p }

/-! ## WellFormed: an ill-formed term for each check (30_encoding.md R111, R113) -/

theorem test_illFormed_step_without_duration :
    (Instr.stepEntry 440 0 0 1 0).illFormed = some .stepWithoutDuration := by decide

theorem test_illFormed_reserved_volume : (Instr.stepEntry 880 100 0 3 0).illFormed = some .reservedVolume := by decide

theorem test_illFormed_reserved_bits : (Instr.stepEntry 880 100 0 0 1).illFormed = some .reservedBits := by decide

theorem test_illFormed_sentinel_reserved_bits : (Instr.sentinel 0 0 0 1).illFormed = some .reservedBits := by decide

theorem test_wellFormed_step : (Instr.stepEntry 440 100 0 1 0).WellFormed := by decide

theorem test_wellFormed_sentinel_with_reserved_volume : (Instr.sentinel 0x370 0 3 0).WellFormed := by decide

/-! ## Decoding: every constructor from a word written out from its table -/

/-- EN-1. -/
theorem test_decode_input :
    decodeTableWord 24 0b0000000000000000000 = some (.nop 0) ∧
    decodeTableWord 24 0b1000000000000000000 = some (.reset 0) ∧
    decodeTableWord 24 0b1111111111111111111 = some (.reset 0x3FFFF) ∧
    decodeTableWord 24 0b0100000000000000000 = some (.tick false 0) ∧
    decodeTableWord 24 0b0010000000010010110 = some (.senseAck 150) ∧
    decodeTableWord 24 0b0110000000001100100 = some (.tick true 100) := by decide

/-- 30_encoding.md R104, R105. -/
theorem test_decode_phase :
    decodes .ph 0b0000 = some .phIdle ∧ decodes .ph 0b0001 = some .phSndStep ∧ decodes .ph 0b0010 = some .phRender ∧
    decodes .ph 0b0011 = some .phTxStart ∧ decodes .ph 0b0100 = some .phTxWait ∧
    decodes .ph 0b0101 = some .phFrameInc ∧ decodes .ph 0b0110 = some .phSenseWait ∧
    decodes .ph 0b0111 = some .phDebounce ∧ decodes .ph 0b1000 = some .phCalWait ∧
    decodes .ph 0b1001 = some .phCalGap ∧ decodes .ph 0b1010 = some .phCalDone ∧
    decodes .ph 0b1011 = some .phReserved11 ∧ decodes .ph 0b1100 = some .phReserved12 ∧
    decodes .ph 0b1101 = some .phReserved13 ∧ decodes .ph 0b1110 = some .phReserved14 ∧
    decodes .ph 0b1111 = some .phReserved15 := by decide

/-- 30_encoding.md R106, R107, R112. -/
theorem test_decode_two_bit_codes :
    decodes .txp 0b00 = some .txIdle ∧ decodes .txp 0b01 = some .txHigh ∧ decodes .txp 0b10 = some .txLow ∧
    decodes .txp 0b11 = some .txLatch ∧ decodes .db 0b00 = some .dbIdle ∧ decodes .db 0b01 = some .dbTouching ∧
    decodes .db 0b10 = some .dbHoldoff ∧ decodes .db 0b11 = some .dbReserved3 ∧ decodes .vol 0b00 = some .volOff ∧
    decodes .vol 0b01 = some .volSoft ∧ decodes .vol 0b10 = some .volLoud ∧
    decodes .vol 0b11 = some .volReserved3 := by decide

/-- EN-2: the fields `R V G D F` of 30_encoding.md R110, most significant first. -/
theorem test_decode_sound_entry :
    decodeTableWord 64 0b0000000000000001000000000000000000000000011001000000000110111000
      = some (.stepEntry 440 100 0 1 0) ∧
    decodeTableWord 64 0x0002002800C80258 = some (.stepEntry 600 200 40 2 0) ∧
    decodeTableWord 64 0x0002FFD800C803E8 = some (.stepEntry 1000 200 (-40) 2 0) ∧
    decodeTableWord 64 0x0000800000010000 = some (.stepEntry 0 1 (-32768) 0 0) ∧
    decodeTableWord 64 0x0001000000000370 = some (.sentinel 0x370 0 1 0) ∧
    decodeTableWord 64 0x0004000000640370 = some (.stepEntry 880 100 0 0 1) := by decide

/-- 30_encoding.md R115. -/
theorem test_decode_symbol :
    decodeTableWord 32 0b1111111100000000000000000 = some .bit0 ∧
    decodeTableWord 32 0b1111111111111111000000000 = some .bit1 ∧
    decodeTableWord 32 0b1111111110000000000000000 = none := by decide

theorem test_decode_latch : decodeTableWord 1000 0 = some .latch ∧ decodeTableWord 1000 1 = none := by decide +kernel

theorem test_decode_too_wide : decodes .ph 16 = none ∧ decodes .input 0x80000 = none := by decide

/-! ## The assembler (T6, EN-3, 30_encoding.md R116) -/

theorem test_assemble_source_program :
    assemble "[(440,100,soft,0),(0,100,off,0),(880,100,soft,0),sentinel]".toList =
      some [0x00010000006401B8, 0x0000000000640000, 0x0001000000640370, 0x0000000000000000] := by decide +kernel

theorem test_assemble_glides :
    assembleStep ⟨600, 200, 2, 40⟩ = 0x0002002800C80258 ∧ assembleStep ⟨1000, 200, 2, -40⟩ = 0x0002FFD800C803E8 ∧
    assembleStep (restStep 100) = 0x0000000000640000 := by decide

theorem test_assemble_rejects_zero_duration : assemble "[(1,0,off,0),sentinel]".toList = none := by decide +kernel

/-! ## Parameters -/

theorem test_default_record_is_legal : Params.default.legal = true := by decide +kernel

/-- TX-6, and 00_scope.md R7 at 20 MHz. -/
theorem test_other_clocks :
    ((Params.default.forClock 16000000).t0h, (Params.default.forClock 16000000).t0l,
      (Params.default.forClock 16000000).t1h, (Params.default.forClock 16000000).t1l,
      (Params.default.forClock 16000000).latchCyc) = (6, 14, 13, 7, 800) ∧
    ((Params.default.forClock 8000000).t0h, (Params.default.forClock 8000000).t0l,
      (Params.default.forClock 8000000).t1h, (Params.default.forClock 8000000).t1l,
      (Params.default.forClock 8000000).latchCyc) = (3, 7, 6, 4, 400) ∧
    Params.default.forClock 20000000 = Params.default := by decide +kernel

/-- EN-2: an entry with `VOL` = 3 or a reserved bit before a sentinel makes the record illegal. -/
theorem test_illegal_roms :
    ({ Params.default with sndRom := defaultRom.set 0 0x0003000000640370 } : Params).legal = false ∧
    ({ Params.default with sndRom := defaultRom.set 0 0x0004000000640370 } : Params).legal = false := by decide +kernel

/-! ## The converter (CM-1 to CM-5) and the triangle wave (43_animation_engine.md R239) -/

theorem test_scale8 :
    scale8 200 100 = 78 ∧ scale8 128 128 = 64 ∧ scale8 255 254 = 254 ∧ scale8 1 255 = 1 ∧ scale8 255 0 = 0 := by decide

theorem test_lerp : lerp 255 0 248 = 8 ∧ lerp 0 255 248 = 247 ∧ lerp 128 128 200 = 128 ∧ lerp 7 200 0 = 7 := by decide

theorem test_hsv_full_saturation :
    hsvToRgb Params.default ⟨16, 255, 255⟩ = ⟨255, 64, 0⟩ ∧ hsvToRgb Params.default ⟨48, 255, 255⟩ = ⟨255, 191, 0⟩ ∧
    hsvToRgb Params.default ⟨100, 255, 255⟩ = ⟨0, 255, 31⟩ ∧
    hsvToRgb Params.default ⟨255, 255, 255⟩ = ⟨255, 0, 8⟩ := by decide +kernel

theorem test_hsv_desaturated :
    hsvToRgb Params.default ⟨0, 128, 255⟩ = ⟨255, 63, 63⟩ ∧ hsvToRgb Params.default ⟨200, 254, 255⟩ = ⟨159, 0, 255⟩ ∧
    hsvToRgb Params.default ⟨0, 1, 255⟩ = ⟨255, 253, 253⟩ ∧
    hsvToRgb Params.default ⟨100, 200, 200⟩ = ⟨8, 200, 31⟩ := by decide +kernel

theorem test_hsv_six_sectors :
    hsvToRgb { Params.default with hueSectors := 6, hueTable := hueTable6 } ⟨43, 255, 255⟩ = ⟨254, 255, 0⟩ ∧
    hsvToRgb { Params.default with hueSectors := 6, hueTable := hueTable6 } ⟨213, 255, 255⟩ = ⟨253, 0, 255⟩ := by
  decide +kernel

theorem test_tri : tri 15 64 = 123 ∧ tri 39 64 = 197 ∧ tri 31 64 = 255 ∧ tri 32 64 = 255 ∧ tri 7 32 = 119 := by decide

/-! ## The input rows -/

/-- EN-1, 45_tick_dispatcher.md R291. -/
theorem test_tick_in_idle :
    after (exec (.tick false 0) booted) (fun t => (t.phase, t.tickOverrun)) = some (1, false) := by decide +kernel

/-- TD-4: a tick in DEBOUNCE is dropped with the flag. -/
theorem test_tick_in_debounce :
    after (exec (.tick false 0) (inPhase 7)) (fun t => (t.phase, t.tickOverrun)) = some (0, true) := by decide +kernel

/-- RS-3. -/
theorem test_reset_has_priority :
    after (step (driveInput sounding 0x7FFFF)) (fun t => (t.phase, t.snd, t.tickOverrun)) =
      some (8, Sound.reset, false) := by decide +kernel

/-- DB-1: raw 150 with baseline 100. -/
theorem test_sense_ack_captures :
    after (exec (.senseAck 150) (inPhase 6)) (fun t => (t.phase, t.touch.senseVal)) = some (7, 50) := by decide +kernel

/-- 42_touch_debouncer.md R203: the first ack after reset. -/
theorem test_sense_ack_calibrates :
    after (exec (.senseAck 100) State.reset) (fun t => (t.phase, t.touch.calCnt, t.touch.calSum, t.touch.calTimer)) =
      some (9, 1, 100, 999999) := by decide +kernel

theorem test_nop_in_idle : after (exec (.nop 7) booted) id = some booted := by decide +kernel

/-! ## The dispatcher's rows -/

theorem test_phIdle_without_tick : after (exec .phIdle booted) (fun t => t.phase) = some 0 := by decide

/-- SS-1, tick 1. -/
theorem test_phSndStep :
    after (exec .phSndStep { sounding with phase := 1 }) (fun t => (t.phase, t.snd)) =
      some (2, ⟨true, 0, 1, 4, 440, 440, 1, false⟩) := by decide +kernel

/-- SS-1, tick 15: the advance meets the sentinel at index 3. -/
theorem test_phSndStep_sentinel :
    after (exec .phSndStep { inPhase 1 with snd := ⟨true, 2, 3, 1, 880, 880, 1, false⟩ }) (fun t => t.snd) =
      some ⟨false, 3, 3, 0, 880, 0, 0, false⟩ := by decide +kernel

/-- AE-1: mode 1 idle at frame 34. -/
theorem test_phRender :
    after (exec .phRender { inPhase 2 with mode := 1, frame := 34 }) (fun t =>
      (t.phase, (List.range 6).map (Memory.read t.buf))) = some (3, [0x87, 0xff, 0, 0, 0x08, 0xff]) := by decide +kernel

/-- AE-1 and AE-2: mode 3 touched at frame 191 clears `touched`. -/
theorem test_phRender_strobe_ends :
    after (exec .phRender { inPhase 2 with mode := 3, frame := 191, touched := true }) (fun t =>
      (t.touched, (List.range 6).map (Memory.read t.buf))) =
      some (false, [0x00, 0xff, 0x20, 0xff, 0x00, 0xdf]) := by decide +kernel

/-- TX-4 and TX-1. -/
theorem test_phTxStart :
    after (exec .phTxStart { inPhase 3 with buf := [(0, 0x08), (2, 0x08), (3, 0x08), (5, 0x08)] })
      (fun t => (t.phase, t.tx)) = some (4, ⟨1, 7, 0, 0x080008080008⟩) := by decide +kernel

/-- TX-4: `buf[0]` = 0xFF. -/
theorem test_phTxStart_one :
    after (exec .phTxStart { inPhase 3 with buf := [(0, 0xFF)] }) (fun t => (t.tx.phase, t.tx.cnt)) =
      some (1, 15) := by decide +kernel

theorem test_phTxWait : after (exec .phTxWait (inPhase 4)) (fun t => t.phase) = some 5 := by decide

theorem test_phTxWait_busy : after (exec .phTxWait (sending 3 7 47)) (fun t => t.phase) = some 4 := by decide

/-- TD-6. -/
theorem test_phFrameInc_wraps :
    after (exec .phFrameInc { inPhase 5 with frame := 255 }) (fun t => (t.phase, t.frame)) = some (6, 0) := by decide

/-- TD-3. -/
theorem test_phFrameInc_holdoff :
    after (exec .phFrameInc { sensing 2 0 16 0 with phase := 5 }) (fun t => t.phase) = some 7 := by decide

/-- DB-1: raw 99 with baseline 100 is clamped. -/
theorem test_phSenseWait_clamps :
    after (exec .phSenseWait (driveInput (inPhase 6) (inputVector false false true 99)))
      (fun t => (t.phase, t.touch.senseVal)) = some (7, 0) := by decide

/-- DB-8: `sense_tmr` 99 with a timeout of 100. -/
theorem test_phSenseWait_times_out :
    after (exec .phSenseWait { under { Params.default with senseTimeoutCyc := some 100 } with
        phase := 6
        touch := { booted.touch with senseTmr := 99, senseVal := 50 } })
      (fun t => (t.phase, t.touch.senseVal, t.touch.senseTmr, t.touch.senseTimeout)) =
      some (7, 0, 0, true) := by decide

theorem test_phDebounce : after (exec .phDebounce (sensing 1 5 0 9)) (fun t => (t.phase, t.touch.dur)) = some (0, 6) := by
  decide

/-- DB-5: the tenth reading. -/
theorem test_phCalWait_tenth :
    after (exec .phCalWait (driveInput { State.reset with touch := { Touch.reset with calCnt := 9, calSum := 900 } }
        (inputVector false false true 105))) (fun t => (t.phase, t.touch.calCnt, t.touch.calSum)) =
      some (10, 10, 1005) := by decide

/-- DB-8: the first request times out. -/
theorem test_phCalWait_times_out :
    after (exec .phCalWait { State.reset with
        params := { Params.default with senseTimeoutCyc := some 100 }
        touch := { Touch.reset with senseTmr := 99 } })
      (fun t => (t.phase, t.touch.calCnt, t.touch.calSum, t.touch.senseTimeout)) = some (9, 1, 0, true) := by decide

theorem test_phCalGap_counts :
    after (exec .phCalGap { inPhase 9 with touch := { booted.touch with calTimer := 5 } })
      (fun t => (t.phase, t.touch.calTimer)) = some (9, 4) := by decide

theorem test_phCalGap_ends : after (exec .phCalGap (inPhase 9)) (fun t => t.phase) = some 8 := by decide

/-- DB-5. -/
theorem test_phCalDone :
    after (exec .phCalDone { inPhase 10 with touch := { booted.touch with calSum := 1005 } })
      (fun t => (t.phase, t.touch.baseline)) = some (0, 100) := by decide

/-! ## The serializer's rows -/

/-- 41_light_transmitter.md R174: a 0 bit goes low for 17 cycles. -/
theorem test_txHigh_ends : after (exec .txHigh (sending 1 0 0)) (fun t => (t.tx.phase, t.tx.cnt)) = some (2, 16) := by
  decide

theorem test_txHigh_counts : after (exec .txHigh (sending 1 7 0)) (fun t => (t.tx.phase, t.tx.cnt)) = some (1, 6) := by
  decide

/-- TX-1: bit 4 is a 1. -/
theorem test_txLow_next_bit :
    after (exec .txLow (sending 2 0 3)) (fun t => (t.tx.phase, t.tx.cnt, t.tx.bit)) = some (1, 15, 4) := by decide

/-- 41_light_transmitter.md R175: the last symbol goes straight into the latch. -/
theorem test_txLow_last_bit :
    after (exec .txLow (sending 2 0 47)) (fun t => (t.tx.phase, t.tx.cnt, t.tx.bit)) = some (3, 999, 47) := by decide

theorem test_txLatch_ends : after (exec .txLatch (sending 3 0 47)) (fun t => t.tx.phase) = some 0 := by decide

theorem test_txIdle : after (exec .txIdle booted) (fun t => t.tx) = some Serial.reset := by decide

theorem test_bit1 : after (exec .bit1 (sending 2 0 3)) (fun t => (t.tx.phase, t.tx.cnt)) = some (1, 15) := by decide

theorem test_bit0 : after (exec .bit0 (sending 2 0 0)) (fun t => (t.tx.phase, t.tx.cnt)) = some (1, 7) := by decide

theorem test_latch : after (exec .latch (sending 2 0 47)) (fun t => (t.tx.phase, t.tx.cnt)) = some (3, 999) := by decide

/-! ## The debouncer's rows (DB-2, DB-3) -/

theorem test_dbIdle_equality_is_no_touch :
    after (exec .dbIdle (sensing 0 0 0 8)) (fun t => t) = some (sensing 0 0 0 8) := by decide +kernel

/-- DB-3. -/
theorem test_dbIdle_boop_program :
    after (exec .dbIdle { sensing 0 0 0 50 with params := { Params.default with boopProg := [some 1, none, none, none] } })
      (fun t => (t.touched, t.frame, t.touch.dbState, t.touch.dur, t.snd)) =
      some (true, 0, 1, 1, ⟨true, 4, 1, 10, 600, 600, 2, false⟩) := by decide +kernel

/-- DB-2: the long touch wraps mode 3 to 0 and starts program 0. -/
theorem test_dbTouching_long_touch :
    after (exec .dbTouching { sensing 1 31 0 9 with mode := 3, touched := true })
      (fun t => (t.mode, t.touched, t.touch.dbState, t.touch.dur, t.snd)) =
      some (0, false, 1, 0, ⟨true, 0, 1, 5, 440, 440, 1, false⟩) := by decide +kernel

theorem test_dbTouching_release :
    after (exec .dbTouching { sensing 1 12 0 8 with touched := true })
      (fun t => (t.touched, t.touch.dbState, t.touch.dur, t.touch.hold)) = some (true, 2, 0, 16) := by decide

theorem test_dbHoldoff_counts :
    after (exec .dbHoldoff (sensing 2 0 16 0)) (fun t => (t.touch.dbState, t.touch.hold)) = some (2, 15) := by decide

theorem test_dbHoldoff_ends :
    after (exec .dbHoldoff (sensing 2 0 1 0)) (fun t => (t.touch.dbState, t.touch.hold)) = some (0, 0) := by decide

/-! ## The sound rows -/

theorem test_volume_rows :
    after (exec .volOff sounding) (fun t => t.snd.toneVol) = some 0 ∧
    after (exec .volSoft sounding) (fun t => t.snd.toneVol) = some 1 ∧
    after (exec .volLoud sounding) (fun t => t.snd.toneVol) = some 2 := by decide

theorem test_sentinel :
    after (exec (.sentinel 0x370 0 1 0) sounding) (fun t => t.snd) = some ⟨false, 0, 1, 5, 440, 0, 0, false⟩ := by decide

/-- SS-4: 110 ms at 20 ms gives a countdown of 5. -/
theorem test_stepEntry_rounds_down :
    after (exec (.stepEntry 700 110 0 2 0) sounding) (fun t => t.snd) = some ⟨true, 0, 2, 5, 700, 700, 2, false⟩ := by
  decide

/-- SS-6: the step bound. -/
theorem test_stepEntry_step_bound :
    after (exec (.stepEntry 300 40 0 1 0) { sounding with params := { Params.default with sndMaxSteps := 1 } })
      (fun t => t.snd) = some ⟨false, 0, 1, 5, 440, 0, 0, true⟩ := by decide

/-- SS-3: frequency 10 with glide -40. -/
theorem test_glide_wraps : addGlide 10 (-40) = 65506 := by decide

/-- SS-5: the end of the ROM. -/
theorem test_rom_end :
    after (sndAdvance { sounding with params := { Params.default with sndRomDepth := 1, sndRom := [0x64000000640064] } })
      (fun t => (t.snd.ptr, t.snd.active, t.snd.err)) = some (0, false, true) := by decide

/-! ## The word that the host places is the next step's -/

theorem test_withFetchWord_input :
    currentIn (State.reset.withFetchWord 24 0x10096) = inputVector false false true 150 := by decide

theorem test_withFetchWord_phase :
    after (step (State.reset.withFetchWord 8 5)) (fun t => (t.phase, t.frame)) = some (6, 1) := by decide +kernel

theorem test_withFetchWord_entry :
    after (step (State.reset.withFetchWord 64 0x0002002800C80258)) (fun t => (t.snd.ptr, t.snd.toneFreq, t.snd.cnt)) =
      some (1, 600, 10) := by decide +kernel

theorem test_withFetchWord_symbol :
    after (step (State.reset.withFetchWord 32 bit1Wave)) (fun t => (t.tx.phase, t.tx.cnt, t.outputs.ledDout)) =
      some (1, 15, true) := by decide +kernel

/-! ## The stimulus script (30_encoding.md R117): reset, then a request is answered in its first cycle -/

theorem test_stimulus_answers_at_once :
    (stimulusCycle (actsOf [.cal [100]]) false State.reset).1 = inputVector false false true 100 ∧
    (stimulusCycle (actsOf [.tick none]) false booted).1 = inputVector false true false 0 := by decide

/-! ## Witnesses: a state and operands that meet the hypotheses of each statement, clause by clause -/

/-- The outcome is a next state. -/
def runs (r : Result) : Bool := holds r fun _ => true

/-- The record and the invariants that most statements ask for. -/
def sound (s : State) : Bool := s.params.legal && s.invariant

/-- A record with a request timeout. -/
def timed (n : Nat) : Params := { Params.default with senseTimeoutCyc := some n }

/-- A record whose touch in mode 0 starts a program. -/
def booping (q : Nat) : Params := { Params.default with boopProg := [some q, none, none, none] }

/-- An input vector in front of the inputs. -/
def given (v : InVec) (s : State) : State := { s with inputs := [v] }

theorem witness_DecodeOfEncodeIsTheInstruction :
    (Instr.stepEntry 65535 65535 0x8000 2 0).WellFormed ∧ (Instr.sentinel 65535 0 3 0).WellFormed ∧
    (Instr.reset 0x3FFFF).WellFormed := by decide

theorem witness_EncodeOfDecodeIsTheWord :
    decodes .snd (2 ^ 64 - 1) = some (.stepEntry 65535 65535 65535 3 0x3FFF) ∧
    decodes .input 0x7FFFF = some (.reset 0x3FFFF) := by decide

theorem witness_AssembledStepDecodes :
    sourceStepLegal ⟨65535, 65535, 2, -32768⟩ = true ∧ sourceStepLegal ⟨0, 1, 0, 32767⟩ = true := by decide

theorem witness_StepRunsTheDecodedInput :
    decodes .input (currentIn (given 0x30064 booted)).toNat = some (.tick true 100) := by decide

theorem witness_CycleRunsPhaseAndSerializer :
    sound (sending 2 0 47) = true ∧
    runs (exec (decodePh (sending 2 0 47).phase) (driveInput (sending 2 0 47) (inputVector false false true 7))) = true ∧
    runs (exec (decodeTxp (sending 2 0 47).tx.phase) (driveInput (sending 2 0 47) (inputVector false false true 7)))
      = true := by decide +kernel

theorem witness_ResetGivesTheResetState : sounding.params.legal = true := by decide +kernel

theorem witness_IllegalRecordsAndBrokenInvariantsStop :
    (under { Params.default with longTouch := 1 }).params.legal = false ∧
    (sensing 0 1 0 0).params.legal = true ∧ inRst (currentIn (sensing 0 1 0 0)) = false ∧
    (sensing 0 1 0 0).phase.toNat ≤ 10 ∧ (sensing 0 1 0 0).touch.dbState ≠ 3 ∧
    (sensing 0 1 0 0).invariant = false := by decide +kernel

theorem witness_ReservedPhasesAreModelFaults :
    (inPhase 11).params.legal = true ∧ inRst (currentIn (inPhase 11)) = false ∧ 11 ≤ (inPhase 11).phase.toNat ∧
    11 ≤ (inPhase 15).phase.toNat ∧ runs (step (inPhase 10)) = true := by decide +kernel

theorem witness_ReservedDebouncerStateIsAModelFault :
    (sensing 3 0 0 0).params.legal = true ∧ inRst (currentIn (sensing 3 0 0 0)) = false ∧ (sensing 3 0 0 0).phase = 7 ∧
    (sensing 3 0 0 0).touch.dbState = 3 ∧ runs (step (sensing 2 0 1 0)) = true := by decide +kernel

/-- The default record with an entry that no legal ROM has at index 2, the last step of program 0. -/
def badRom (e : Entry) : Params := { Params.default with sndRom := defaultRom.set 2 e }

theorem witness_ReservedVolumeIsRefused :
    (1 : Half) ≠ 0 ∧ sounding.snd.steps.toNat ≠ sounding.params.sndMaxSteps ∧ Params.default.romLegal = true ∧
    (badRom 0x0003000000640370).romLegal = false ∧ (badRom 0x0004000000640370).romLegal = false ∧
    0 ∈ (badRom 0x0004000000640370).programBase ∧
    (badRom 0x0004000000640370).sndRom[2]? = some 0x0004000000640370 ∧
    ((badRom 0x0004000000640370).sndRom.take 3).all (fun e => entryDur e != 0) = true := by decide +kernel

theorem witness_EveryStepKeepsTheInvariants :
    runs (step (sensing 1 31 0 9)) = true ∧ runs (exec (decodeTxp 2) (sending 2 0 47)) = true ∧
    runs (exec (decodePh 7) (sensing 1 31 0 9)) = true ∧ (7 : PhaseCode) ≠ 3 ∧
    runs (exec .phTxStart (inPhase 3)) = true := by decide +kernel

theorem witness_GoodStatesRunAndStayGood :
    booted.good = true ∧ State.reset.good = true ∧ (sending 2 0 47).good = true ∧
    ({ sounding with phase := 1, snd := ⟨true, 2, 3, 1, 880, 880, 1, false⟩ } : State).good = true ∧
    (sensing 1 31 0 9).good = true := by decide +kernel

theorem witness_EveryStepKeepsTheBufferCanonical :
    Memory.wf [(0, 0x08), (5, 0xFF)] = true ∧
    runs (step { inPhase 2 with buf := [(0, 0x08), (5, 0xFF)] }) = true := by decide +kernel

theorem witness_TickIsAcceptedInIdleOnly :
    sound booted = true ∧ booted.phase = 0 ∧ runs (step (given 0x20000 (inPhase 4))) = true ∧
    (inPhase 4).phase ≠ 0 := by decide +kernel

theorem witness_TickOutsideIdleIsDropped :
    (inPhase 1).phase ≠ 0 ∧ (inPhase 7).phase ≠ 0 ∧ (inPhase 8).phase ≠ 0 := by decide

theorem witness_QuiescentCycleChangesNothing :
    sound sounding = true ∧ sounding.phase = 0 ∧ (inPhase 3).invariant = true ∧ (inPhase 3).phase ≠ 4 := by
  decide +kernel

theorem witness_AckCountsOnlyDuringARequest :
    (inPhase 7).phase ≠ 6 ∧ (inPhase 7).phase ≠ 8 ∧ State.reset.phase = 8 ∧
    runs (exec (.senseAck 9) State.reset) = true ∧ sound (inPhase 6) = true ∧ (inPhase 6).phase = 6 := by decide +kernel

theorem witness_TxStartLoadsTheWholeBuffer : (inPhase 3).tx.phase = 0 ∧ (sending 1 3 0).tx.phase ≠ 0 := by decide

theorem witness_SerializerRowsStep :
    (sending 1 0 47).tx.bit.toNat ≤ 47 ∧ (sending 2 0 46).tx.bit.toNat ≤ 47 ∧ 48 ≤ (sending 1 0 48).tx.bit.toNat := by
  decide

theorem witness_SymbolsHaveTheirWaveform :
    (sending 1 0 4).params.legal = true ∧ (sending 1 0 4).tx.bit.toNat ≤ 47 ∧
    (sending 1 0 4).tx.sh.getLsbD (47 - (sending 1 0 4).tx.bit.toNat) = true ∧
    (sending 1 0 47).tx.sh.getLsbD (47 - (sending 1 0 47).tx.bit.toNat) = false := by decide +kernel

theorem witness_FrameOnTheWire :
    sound (given 0x30064 (inPhase 3)) = true ∧ (given 0x30064 (inPhase 3)).phase = 3 ∧
    (given 0x30064 (inPhase 3)).inputs.all (fun v => !inRst v) = true ∧
    1 + frameCycles Params.default (packFrame (inPhase 3)) = 2201 := by decide +kernel

theorem witness_TransmissionIsNotInterrupted :
    sound (sending 3 0 47) = true ∧ (sending 3 0 47).tx.phase ≠ 0 ∧ inRst 0x3FFFF = false ∧ inRst 0x40000 = true ∧
    runs (step (driveInput (sending 1 3 4) 0x40000)) = true := by decide +kernel

theorem witness_TickTimeline :
    (given 0x20000 booted).good = true ∧ (given 0x20000 booted).phase = 0 ∧
    inTick (currentIn (given 0x20000 booted)) = true ∧ (given 0x20000 booted).inputs.all (fun v => !inRst v) = true ∧
    (given 0x20000 { sensing 2 0 16 0 with phase := 0 }).good = true ∧ (sensing 2 0 16 0).touch.dbState = 2 := by
  decide +kernel

theorem witness_StepEntryEntersOrHitsTheBound :
    (1 : Half) ≠ 0 ∧ (2 : Code2) ≠ 3 ∧ sounding.snd.steps.toNat ≤ sounding.params.sndMaxSteps ∧
    sounding.params.sndMaxSteps ≤ 255 ∧ sounding.snd.steps.toNat ≠ sounding.params.sndMaxSteps ∧
    ({ sounding with snd := { sounding.snd with steps := 255 } } : State).snd.steps.toNat =
      sounding.params.sndMaxSteps := by decide

theorem witness_SoundStepGlides :
    booted.snd.active = false ∧ sounding.snd.active = true ∧
    sounding.snd.ptr.toNat < sounding.params.sndRomDepth ∧
    sounding.params.sndRom[sounding.snd.ptr.toNat]? = some 0x00010000006401B8 ∧ 2 ≤ sounding.snd.cnt.toNat ∧
    ({ sounding with params := { Params.default with sndRomDepth := 2 }, snd := { sounding.snd with ptr := 2 } } :
      State).params.sndRomDepth ≤ (2 : BitVec 8).toNat := by decide +kernel

/-- `sounding` at a ROM index with a countdown of 1. -/
def atEntry (p : BitVec 8) : State := { sounding with snd := { sounding.snd with ptr := p, cnt := 1 } }

theorem witness_SoundStepAdvances :
    (atEntry 2).snd.active = true ∧ (atEntry 2).snd.ptr.toNat < (atEntry 2).params.sndRomDepth ∧
    (atEntry 2).params.sndRomDepth ≤ 256 ∧
    (atEntry 2).params.sndRom[(atEntry 2).snd.ptr.toNat]? = some 0x0001000000640370 ∧ (atEntry 2).snd.cnt.toNat ≤ 1 ∧
    (atEntry 255).snd.ptr.toNat = (atEntry 255).params.sndRomDepth - 1 ∧
    (atEntry 2).snd.ptr.toNat + 1 < (atEntry 2).params.sndRomDepth ∧
    (atEntry 2).params.sndRom[(atEntry 2).snd.ptr.toNat + 1]? = some 0 ∧ isSentinel 0 = true ∧
    (atEntry 0).params.sndRom[(atEntry 0).snd.ptr.toNat + 1]? = some 0x0000000000640000 ∧
    isSentinel 0x0000000000640000 = false ∧ entryVol 0x0000000000640000 ≠ 3 ∧
    (atEntry 0).snd.steps.toNat ≠ (atEntry 0).params.sndMaxSteps ∧
    (atEntry 0).snd.steps.toNat = ({ Params.default with sndMaxSteps := 1 } : Params).sndMaxSteps := by decide +kernel

theorem witness_StepIsCurrentForItsCountdown :
    sounding.snd.active = true ∧ sounding.snd.ptr.toNat < sounding.params.sndRomDepth ∧
    sounding.params.sndRom[sounding.snd.ptr.toNat]? = some 0x00010000006401B8 ∧ 4 < sounding.snd.cnt.toNat := by
  decide +kernel

theorem witness_SourceProgramTakesFifteenTicks : sounding.params = Params.default := by decide +kernel

theorem witness_ReadingIsCorrectedByTheBaseline :
    inAck (currentIn (given 0x10096 (inPhase 6))) = true ∧ inAck (currentIn (inPhase 6)) = false ∧
    (inPhase 6).params.senseTimeoutCyc = none := by decide

theorem witness_SenseTimeoutAbandonsTheRequest :
    (under (timed 1)).params.senseTimeoutCyc = some 1 ∧ 1 ≤ 2 ^ 20 - 1 ∧
    inAck (currentIn (under (timed 1))) = false ∧ (under (timed 1)).touch.senseTmr.toNat = 1 - 1 ∧
    (under (timed 2)).touch.senseTmr.toNat < 2 - 1 ∧
    ({ State.reset with params := timed 1 } : State).params.legal = true ∧ State.reset.touch.calCnt.toNat ≤ 9 ∧
    inAck (currentIn (given 0x10096 (under (timed 1)))) = true ∧
    runs (exec .phSenseWait (given 0x10096 (under (timed 1)))) = true := by decide +kernel

/-- The calibration before its last reading, with the greatest sum. -/
def lastReading : State :=
  given 0x1FFFF { State.reset with touch := { Touch.reset with calCnt := 9, calSum := 589815 } }

theorem witness_CalibrationCountsTenReadings :
    lastReading.params.legal = true ∧ inAck (currentIn lastReading) = true ∧ lastReading.touch.calCnt.toNat ≤ 9 ∧
    lastReading.touch.calSum.toNat ≤ lastReading.touch.calCnt.toNat * 65535 ∧
    inAck (currentIn State.reset) = false ∧ State.reset.params.senseTimeoutCyc = none := by decide +kernel

theorem witness_CalibrationGapAndBaseline :
    (inPhase 9).touch.calTimer = 0 ∧
    ({ inPhase 9 with touch := { booted.touch with calTimer := 999999 } } : State).touch.calTimer ≠ 0 ∧
    (inPhase 10).params.legal = true ∧ (655350 : BitVec 20).toNat ≤ 10 * 65535 := by decide +kernel

/-- A record with a gap of 5 cycles, as in DB-4. -/
def quickBoot : State :=
  { State.reset with
    params := { Params.default with calGapCyc := 5 }
    inputs := bootInputs 5 [98, 99, 100, 101, 102, 100, 100, 100, 100, 103] }

theorem witness_BootCalibrates :
    sound quickBoot = true ∧ quickBoot.phase = 8 ∧ quickBoot.touch.calCnt = 0 ∧ quickBoot.touch.calSum = 0 ∧
    quickBoot.inputs = bootInputs quickBoot.params.calGapCyc [98, 99, 100, 101, 102, 100, 100, 100, 100, 103] ++ [] := by
  decide +kernel

theorem witness_UnansweredRequestHangs :
    sound (given 0x20000 (inPhase 6)) = true ∧ (inPhase 6).params.senseTimeoutCyc = none ∧ (inPhase 6).phase = 6 ∧
    (given 0x20000 (inPhase 6)).inputs.all (fun v => !inRst v && !inAck v) = true ∧ sound State.reset = true := by
  decide +kernel

theorem witness_TouchStart :
    (sensing 0 0 0 8).touch.senseVal.toNat ≤ (sensing 0 0 0 8).params.touchThreshold ∧
    (sensing 0 0 0 9).params.touchThreshold < (sensing 0 0 0 9).touch.senseVal.toNat ∧
    (sensing 0 0 0 9).mode.toNat < Params.default.modeCount ∧
    Params.default.modeCount ≤ ({ sensing 0 0 0 9 with mode := 4 } : State).mode.toNat ∧
    Params.default.boopProg[(sensing 0 0 0 9).mode.toNat]? = some none ∧
    (booping 1).boopProg[(sensing 0 0 0 9).mode.toNat]? = some (some 1) ∧ (booping 1).programBase[1]? = some 4 ∧
    4 < (booping 1).sndRomDepth ∧ (booping 1).sndRom[4]? = some 0x0002002800C80258 ∧
    entryVol 0x0002002800C80258 ≠ 3 ∧ 1 ≤ (booping 1).sndMaxSteps := by decide +kernel

theorem witness_TouchContinuesOrAdvancesTheMode :
    (sensing 1 31 0 9).params.touchThreshold < (sensing 1 31 0 9).touch.senseVal.toNat ∧
    (sensing 1 30 0 9).touch.dur.toNat + 1 < Params.default.longTouch ∧ Params.default.longTouch ≤ 255 ∧
    (sensing 1 31 0 9).touch.dur.toNat + 1 = Params.default.longTouch ∧ 1 ≤ Params.default.modeCount ∧
    Params.default.modeCount ≤ 256 ∧
    Params.default.programBase[Params.default.modeChangeProg]? = some 0 ∧ 0 < Params.default.sndRomDepth ∧
    Params.default.sndRom[0]? = some 0x00010000006401B8 ∧ entryVol 0x00010000006401B8 ≠ 3 ∧
    1 ≤ Params.default.sndMaxSteps := by decide +kernel

theorem witness_ReleaseAndHoldoff :
    (sensing 1 12 0 8).touch.senseVal.toNat ≤ Params.default.touchThreshold ∧ Params.default.holdoffTicks ≤ 255 ∧
    Params.default.holdoffTicks ≠ 0 ∧ ({ Params.default with holdoffTicks := 0 } : Params).holdoffTicks = 0 ∧
    1 ≤ (sensing 2 0 1 0).touch.hold.toNat := by decide

theorem witness_DebounceRunsOneRuleAndReturns :
    runs (exec (decodeDb (sensing 1 31 0 9).touch.dbState) (sensing 1 31 0 9)) = true ∧
    (sensing 2 0 1 0).good = true := by decide +kernel

theorem witness_LongTouchAdvancesOncePerLongTouchSamples :
    (sensing 0 0 0 9).good = true ∧ (sensing 0 0 0 9).touch.dbState = 0 ∧
    (sensing 0 0 0 9).params.touchThreshold < (sensing 0 0 0 9).touch.senseVal.toNat := by decide +kernel

theorem witness_ModeChangesOnlyAtALongTouch :
    inRst (currentIn (sensing 1 31 0 9)) = false ∧
    holds (step (sensing 1 31 0 9)) (fun t => t.mode != (sensing 1 31 0 9).mode) = true := by decide +kernel

theorem witness_FrameCounterProperty :
    inRst (currentIn (inPhase 5)) = false ∧ runs (step (inPhase 5)) = true ∧
    runs (step (sensing 0 0 0 9)) = true := by decide +kernel

theorem witness_StickyFlagsStayAndHaveTheirCauses :
    inRst (currentIn (given 0x20000 (inPhase 7))) = false ∧
    holds (step (given 0x20000 (inPhase 7))) (fun t => t.tickOverrun) = true ∧
    holds (step { atEntry 255 with phase := 1 }) (fun t => t.snd.err) = true ∧
    holds (step { atEntry 0 with phase := 1, params := { Params.default with sndMaxSteps := 1 } })
      (fun t => t.snd.err) = true ∧
    holds (step { atEntry 2 with phase := 1 }) (fun t => !t.snd.err) = true ∧
    holds (step { under (timed 1) with phase := 6 }) (fun t => t.touch.senseTimeout) = true := by decide +kernel

theorem witness_FieldsHaveTheirWriters :
    runs (step (inPhase 10)) = true ∧ inRst (currentIn (inPhase 10)) = false ∧
    holds (step { inPhase 2 with frame := 1 }) (fun t => t.buf != []) = true ∧
    holds (step { inPhase 10 with touch := { booted.touch with calSum := 5000 } })
      (fun t => t.touch.baseline != 100) = true ∧
    holds (step (sensing 0 0 0 9)) (fun t => t.touched) = true := by decide +kernel

theorem witness_RenderWritesBothLights :
    Params.default.hueLegal = true ∧ ({ Params.default with hueSectors := 7 } : Params).hueLegal = false ∧
    Params.default.modeCount ≤ ({ inPhase 2 with mode := 4 } : State).mode.toNat ∧
    (inPhase 2).params.legal = true ∧ Params.default.modeTable[(inPhase 2).mode.toNat]? = some ⟨.idle0, .touched0⟩ ∧
    Params.default.touchFrames[(inPhase 2).mode.toNat]? = some 32 ∧
    behaviourAt .idle0 (inPhase 2).frame = some ⟨⟨128, 255, 0⟩, ⟨128, 255, 0⟩⟩ := by decide +kernel

theorem witness_RenderIsIdempotent :
    (inPhase 2).params = sounding.params ∧ (inPhase 2).mode = sounding.mode ∧ (inPhase 2).frame = sounding.frame ∧
    (inPhase 2).touched = sounding.touched ∧ Memory.wf (inPhase 2).buf = true ∧ Memory.wf sounding.buf = true ∧
    runs (exec .phRender (inPhase 2)) = true ∧ runs (exec .phRender sounding) = true := by decide +kernel

theorem witness_DefaultTrianglesAndStrobes :
    booted.params = Params.default ∧ booted.mode = 0 ∧ booted.touched = false ∧
    ({ booted with mode := 2, touched := true } : State).mode = 2 ∧ ({ booted with mode := 3 } : State).mode = 3 ∧
    ({ booted with mode := 1, touched := true } : State).touched = true := by decide +kernel

theorem witness_TriangleWave : 4 % 2 = 0 ∧ 4 ≤ 4 ∧ 3 < 4 := by decide

theorem witness_LerpStaysBetween :
    (255 : Byte) ≠ 0 ∧ (0 : Byte).toNat ≤ (255 : Byte).toNat ∧ (0 : Byte).toNat < (255 : Byte).toNat := by decide

theorem witness_ConverterProperties : ({ Params.default with hueSectors := 6, hueTable := hueTable6 } : Params).hueLegal =
    true := by decide +kernel

theorem witness_HueEndpointsAreTheTable :
    Params.default.hueLegal = true ∧ (32 : Byte).toNat * Params.default.hueSectors % 256 = 0 := by decide +kernel

end Sys2Proof.Tests
end

/-! SUPPORT. What the row of each phase and of each serializer phase can do, said once: the inversion lemmas that the
proofs about steps go through. -/

namespace Sys2Proof.Machine

/-! ## The rows are the operations of a cycle -/

/-- The dispatcher's operation of a cycle is the row that `phase` selects (30_encoding.md R103-R105). -/
theorem dispatcherOp_eq_exec (s : State) : dispatcherOp s = exec (decodePh s.phase) s := by
  unfold dispatcherOp decodePh
  split <;> simp_all [exec]

/-- The serializer's operation of a cycle is the row that `tx_phase` selects (30_encoding.md R106). -/
theorem serializerOp_eq_exec (s : State) : serializerOp s = exec (decodeTxp s.tx.phase) s := by
  unfold serializerOp decodeTxp
  split <;> simp_all [exec]

theorem txIsIdle_iff {s : State} : txIsIdle s = true ↔ s.tx.phase = 0 := beq_iff_eq

/-! ## The serializer's rows (41_light_transmitter.md R174-R177) -/

/-- `SerializerRow s c t`: the row of serializer phase `c` can lead from `s` to `t`. -/
inductive SerializerRow (s : State) : Code2 → State → Prop
  /-- R177. -/
  | idle : SerializerRow s 0 s
  /-- A busy phase that is not over counts down. -/
  | count {c : Code2} (hc : c ≠ 0) (hcnt : s.tx.cnt ≠ 0) :
      SerializerRow s c { s with tx := { s.tx with cnt := s.tx.cnt - 1 } }
  /-- The high part of a symbol is over (R174). -/
  | highEnd (hcnt : s.tx.cnt = 0) :
      SerializerRow s 1 { s with tx := { s.tx with
        phase := 2, cnt := lowCycles s.params (frameBit s.tx.sh s.tx.bit.toNat) - 1 } }
  /-- The next symbol begins (R175). -/
  | nextBit (hcnt : s.tx.cnt = 0) (hbit : s.tx.bit.toNat < 47) :
      SerializerRow s 2 { s with tx := { s.tx with
        phase := 1
        cnt := highCycles s.params (frameBit s.tx.sh (s.tx.bit.toNat + 1)) - 1
        bit := BitVec.ofNat 6 (s.tx.bit.toNat + 1) } }
  /-- The latch begins after bit 47 (R175). -/
  | latchBegin (hcnt : s.tx.cnt = 0) (hbit : s.tx.bit.toNat = 47) :
      SerializerRow s 2 { s with tx := { s.tx with phase := 3, cnt := s.params.latchCyc - 1 } }
  /-- The latch is over (R176). -/
  | latchEnd (hcnt : s.tx.cnt = 0) : SerializerRow s 3 { s with tx := { s.tx with phase := 0 } }

theorem execTxHigh_row {s t : State} (h : execTxHigh s = .next t) : SerializerRow s 1 t := by
  obtain ⟨-, rfl⟩ := execTxHigh_eq_next.1 h
  by_cases hcnt : s.tx.cnt = 0
  · rw [if_pos hcnt]; exact .highEnd hcnt
  · rw [if_neg hcnt]; exact .count (by decide) hcnt

theorem execTxLow_row {s t : State} (h : execTxLow s = .next t) : SerializerRow s 2 t := by
  obtain ⟨hle, rfl⟩ := execTxLow_eq_next.1 h
  by_cases hcnt : s.tx.cnt = 0
  · rw [if_pos hcnt]
    by_cases hbit : s.tx.bit.toNat = 47
    · rw [if_pos hbit]; exact .latchBegin hcnt hbit
    · rw [if_neg hbit]; exact .nextBit hcnt (by omega)
  · rw [if_neg hcnt]; exact .count (by decide) hcnt

theorem execTxLatch_row {s t : State} (h : execTxLatch s = .next t) : SerializerRow s 3 t := by
  rw [execTxLatch_eq, Host.Outcome.next.injEq] at h
  subst h
  by_cases hcnt : s.tx.cnt = 0
  · rw [if_pos hcnt]; exact .latchEnd hcnt
  · rw [if_neg hcnt]; exact .count (by decide) hcnt

/-- A row of the serializer that answers a next state does what its rule says. -/
theorem serializerRow_of_exec {c : Code2} {s t : State} (h : exec (decodeTxp c) s = .next t) : SerializerRow s c t := by
  obtain ⟨n⟩ := c
  fin_cases n
  · cases h; exact .idle
  · exact execTxHigh_row h
  · exact execTxLow_row h
  · exact execTxLatch_row h

namespace SerializerRow

variable {c : Code2} {s t : State}

/-- The serializer writes `tx_*` alone (10_state.md R45). -/
theorem eq_with_tx (h : SerializerRow s c t) : t = { s with tx := t.tx } := by cases h <;> rfl

/-- The serializer only reads its frame register. -/
theorem tx_sh (h : SerializerRow s c t) : t.tx.sh = s.tx.sh := by cases h <;> rfl

theorem tx_bit_le (h : SerializerRow s c t) (hs : s.tx.bit.toNat ≤ 47) : t.tx.bit.toNat ≤ 47 := by
  cases h with
  | nextBit _ hbit => simp only [BitVec.toNat_ofNat]; omega
  | _ => exact hs

end SerializerRow

/-! ## The debouncer's rows (42_touch_debouncer.md R207-R211) -/

/-- `DebouncerRow s c t`: the row of debouncer state `c` can lead from `s` to `t`. -/
inductive DebouncerRow (s : State) : Code2 → State → Prop
  /-- No touch begins (R207). -/
  | quiet (hover : overThreshold s = false) : DebouncerRow s 0 s
  /-- A touch begins, with the mode's sound program if it has one (R207). -/
  | touchStart {q : Sound} (hover : overThreshold s = true)
      (hboop : startBoop (beginTouch s) = .next { beginTouch s with snd := q }) :
      DebouncerRow s 0 { beginTouch s with snd := q }
  /-- The touch goes on (R208). -/
  | touchCount (hover : overThreshold s = true) (hdur : s.touch.dur.toNat + 1 ≠ s.params.longTouch) :
      DebouncerRow s 1 { s with touch := { s.touch with dur := BitVec.ofNat 8 (s.touch.dur.toNat + 1) } }
  /-- The touch is a long one: the mode advances (R209). -/
  | longTouch {q : Sound} (hover : overThreshold s = true) (hdur : s.touch.dur.toNat + 1 = s.params.longTouch)
      (hadv : modeAdvance s = .next { s with
        mode := BitVec.ofNat 8 ((s.mode.toNat + 1) % s.params.modeCount)
        touched := false
        touch := { s.touch with dur := 0 }
        snd := q }) :
      DebouncerRow s 1 { s with
        mode := BitVec.ofNat 8 ((s.mode.toNat + 1) % s.params.modeCount)
        touched := false
        touch := { s.touch with dur := 0 }
        snd := q }
  /-- The touch ends (R210). -/
  | release (hover : overThreshold s = false) : DebouncerRow s 1 (releaseTouch s)
  /-- The hold-off counts down (R211). -/
  | holdoff : DebouncerRow s 2 { s with touch := { s.touch with
      hold := s.touch.hold - 1
      dbState := if s.touch.hold - 1 = 0 then 0 else s.touch.dbState } }

theorem execDbIdle_row {s t : State} (h : execDbIdle s = .next t) : DebouncerRow s 0 t := by
  rcases execDbIdle_next h with ⟨hover, rfl⟩ | ⟨hover, hboop, ht⟩
  · exact .quiet hover
  · rw [ht] at hboop ⊢; exact .touchStart hover hboop

theorem execDbTouching_row {s t : State} (h : execDbTouching s = .next t) : DebouncerRow s 1 t := by
  rcases execDbTouching_next h with ⟨hover, rfl⟩ | ⟨hover, hdur, rfl⟩ | ⟨hover, hdur, hadv, ht⟩
  · exact .release hover
  · exact .touchCount hover hdur
  · rw [ht] at hadv ⊢; exact .longTouch hover hdur hadv

/-- The debouncer's operation, where it answers a next state, does what the rule of its state says (R206). -/
theorem debouncerRow_of_debouncerOp {s t : State} (h : debouncerOp s = .next t) :
    DebouncerRow s s.touch.dbState t := by
  unfold debouncerOp at h
  generalize s.touch.dbState = c at h ⊢
  obtain ⟨n⟩ := c
  fin_cases n
  · exact execDbIdle_row h
  · exact execDbTouching_row h
  · cases h; exact .holdoff
  · cases h

/-! ## The dispatcher's rows (30_encoding.md R104) -/

/-- `PhaseRow s c t`: the row of phase `c` can lead from `s` to `t`. -/
inductive PhaseRow (s : State) : PhaseCode → State → Prop
  /-- IDLE without a tick (45_tick_dispatcher.md R303). -/
  | idle (htick : inTick (currentIn s) = false) : PhaseRow s 0 s
  /-- IDLE accepts a tick (45_tick_dispatcher.md R291). -/
  | accept (htick : inTick (currentIn s) = true) : PhaseRow s 0 (setPhase s 1)
  /-- SND_STEP without an active program (44_sound_sequencer.md R268). -/
  | silent (hactive : s.snd.active = false) : PhaseRow s 1 (setPhase s 2)
  /-- SND_STEP of an active program (44_sound_sequencer.md R268, R269). -/
  | sound {q : Sound} (hactive : s.snd.active = true) (hstep : sndStep s = .next { s with snd := q }) :
      PhaseRow s 1 { s with snd := q, phase := 2 }
  /-- RENDER (43_animation_engine.md R232-R236). -/
  | render {m : Mode} {n : Nat} {pair : HsvPair} (hhue : s.params.hueLegal = true)
      (hmode : s.params.modeTable[s.mode.toNat]? = some m) (hframes : s.params.touchFrames[s.mode.toNat]? = some n)
      (hpair : behaviourAt (if s.touched then m.touched else m.idle) s.frame = some pair) :
      PhaseRow s 2 { s with
        buf := lightBytes s.params.channelOrder (hsvToRgb s.params pair.left) (hsvToRgb s.params pair.right) s.buf
        touched := touchedAfterRender s n
        phase := 3 }
  /-- TX_START loads an idle serializer (45_tick_dispatcher.md R295). -/
  | load (hidle : txIsIdle s = true) :
      PhaseRow s 3 { s with
        tx := ⟨1, highCycles s.params (frameBit (packFrame s) 0) - 1, 0, packFrame s⟩
        phase := 4 }
  /-- TX_WAIT while the serializer is busy (45_tick_dispatcher.md R296). -/
  | txBusy (hbusy : txIsIdle s = false) : PhaseRow s 4 s
  /-- TX_WAIT once the serializer is idle (45_tick_dispatcher.md R296). -/
  | txDone (hidle : txIsIdle s = true) : PhaseRow s 4 (setPhase s 5)
  /-- FRAME_INC (45_tick_dispatcher.md R297, R298). -/
  | frameInc : PhaseRow s 5 { s with
      frame := BitVec.ofNat 8 (s.frame.toNat + 1)
      phase := if s.touch.dbState = 2 then 7 else 6 }
  /-- SENSE_WAIT takes a reading (42_touch_debouncer.md R202). -/
  | capture (hack : inAck (currentIn s) = true) : PhaseRow s 6 (captureReading (inData (currentIn s)) s)
  /-- SENSE_WAIT without an ack (42_touch_debouncer.md R212). -/
  | senseHold (hack : inAck (currentIn s) = false) : PhaseRow s 6 (senseTimeoutOp s abandonReading)
  /-- DEBOUNCE performs the debouncer's row (42_touch_debouncer.md R206). -/
  | debounce {u : State} (hrow : DebouncerRow s s.touch.dbState u) : PhaseRow s 7 (setPhase u 0)
  /-- CAL_WAIT takes a reading (42_touch_debouncer.md R203). -/
  | calReading (hack : inAck (currentIn s) = true) : PhaseRow s 8 (calibrationReading (inData (currentIn s)) s)
  /-- CAL_WAIT without an ack (42_touch_debouncer.md R212). -/
  | calHold (hack : inAck (currentIn s) = false) : PhaseRow s 8 (senseTimeoutOp s (calibrationReading 0#16))
  /-- The gap between two readings is over (42_touch_debouncer.md R204). -/
  | gapEnd (htimer : s.touch.calTimer = 0) : PhaseRow s 9 (setPhase s 8)
  /-- The gap between two readings counts down (42_touch_debouncer.md R204). -/
  | gapCount (htimer : s.touch.calTimer ≠ 0) :
      PhaseRow s 9 { s with touch := { s.touch with calTimer := s.touch.calTimer - 1 } }
  /-- CAL_DONE fixes the baseline (42_touch_debouncer.md R205). -/
  | calDone : PhaseRow s 10 { s with
      phase := 0
      touch := { s.touch with baseline := average s.params s.touch.calSum } }

theorem execPhIdle_row {s t : State} (h : execPhIdle s = .next t) : PhaseRow s 0 t := by
  unfold execPhIdle at h
  split at h <;> cases h
  next htick => exact .accept htick
  next htick => exact .idle (by simpa using htick)

theorem execPhSndStep_row {s t : State} (h : execPhSndStep s = .next t) : PhaseRow s 1 t := by
  obtain ⟨u, hu, ht⟩ := andThen_eq_next.1 h
  cases ht
  split at hu
  next hactive =>
    have hframe := sndStep_frame hu
    rw [hframe] at hu ⊢
    exact .sound hactive hu
  next hactive => cases hu; exact .silent (by simpa using hactive)

theorem execPhRender_row {s t : State} (h : execPhRender s = .next t) : PhaseRow s 2 t := by
  obtain ⟨hhue, -, m, n, pair, hmode, hframes, hpair, rfl⟩ := execPhRender_eq_next.1 h
  exact .render hhue hmode hframes hpair

theorem execPhTxStart_row {s t : State} (h : execPhTxStart s = .next t) : PhaseRow s 3 t := by
  obtain ⟨u, hu, ht⟩ := andThen_eq_next.1 h
  obtain ⟨hidle, rfl⟩ := txLoad_eq_next.1 hu
  cases ht
  exact .load hidle

theorem execPhTxWait_row {s t : State} (h : execPhTxWait s = .next t) : PhaseRow s 4 t := by
  unfold execPhTxWait at h
  split at h <;> cases h
  next hidle => exact .txDone hidle
  next hbusy => exact .txBusy (by simpa using hbusy)

theorem execPhSenseWait_row {s t : State} (h : execPhSenseWait s = .next t) : PhaseRow s 6 t := by
  unfold execPhSenseWait at h
  split at h <;> cases h
  next hack => exact .capture hack
  next hack => exact .senseHold (by simpa using hack)

theorem execPhDebounce_row {s t : State} (h : execPhDebounce s = .next t) : PhaseRow s 7 t := by
  obtain ⟨u, hu, ht⟩ := andThen_eq_next.1 h
  cases ht
  exact .debounce (debouncerRow_of_debouncerOp hu)

theorem execPhCalWait_row {s t : State} (h : execPhCalWait s = .next t) : PhaseRow s 8 t := by
  unfold execPhCalWait at h
  split at h <;> cases h
  next hack => exact .calReading hack
  next hack => exact .calHold (by simpa using hack)

theorem execPhCalGap_row {s t : State} (h : execPhCalGap s = .next t) : PhaseRow s 9 t := by
  unfold execPhCalGap at h
  split at h <;> cases h
  next htimer => exact .gapEnd htimer
  next htimer => exact .gapCount htimer

/-- A row of the dispatcher that answers a next state does what its rule says; the reserved rows never answer one. -/
theorem phaseRow_of_exec {c : PhaseCode} {s t : State} (h : exec (decodePh c) s = .next t) : PhaseRow s c t := by
  obtain ⟨n⟩ := c
  fin_cases n
  · exact execPhIdle_row h
  · exact execPhSndStep_row h
  · exact execPhRender_row h
  · exact execPhTxStart_row h
  · exact execPhTxWait_row h
  · cases h; exact .frameInc
  · exact execPhSenseWait_row h
  · exact execPhDebounce_row h
  · exact execPhCalWait_row h
  · exact execPhCalGap_row h
  · cases h; exact .calDone
  all_goals cases h

end Sys2Proof.Machine

/-! SUPPORT. What the dispatcher's rows leave unchanged, and what an answering step is made of. -/

namespace Sys2Proof.Machine

/-! ## What the debouncer and the sense requests leave unchanged -/

namespace DebouncerRow

variable {c : Code2} {s t : State}

theorem params (h : DebouncerRow s c t) : t.params = s.params := by cases h <;> simp
theorem inputs (h : DebouncerRow s c t) : t.inputs = s.inputs := by cases h <;> simp
theorem buf (h : DebouncerRow s c t) : t.buf = s.buf := by cases h <;> simp
theorem tx (h : DebouncerRow s c t) : t.tx = s.tx := by cases h <;> simp

theorem baseline (h : DebouncerRow s c t) : t.touch.baseline = s.touch.baseline := by
  cases h with
  | release _ => unfold releaseTouch; split <;> rfl
  | _ => rfl

/-- A touch start alone sets `touched` (R207). -/
theorem touched_set (h : DebouncerRow s c t) (hs : s.touched = false) (ht : t.touched = true) : c = 0 := by
  cases h <;> simp_all

/-- A mode advance alone clears `touched` (R209). -/
theorem touched_clear (h : DebouncerRow s c t) (hs : s.touched = true) (ht : t.touched = false) : c = 1 := by
  cases h <;> simp_all

end DebouncerRow

/-- A field that the request's two registers and the expiry leave alone is the same after a request cycle without an ack
(R212). -/
theorem senseTimeoutOp_field {α : Type} (f : State → α) {expire : State → State} (s : State)
    (hcount : ∀ tmr flag, f { s with touch := { s.touch with senseTmr := tmr, senseTimeout := flag } } = f s)
    (hexpire : ∀ u, f (expire u) = f u) : f (senseTimeoutOp s expire) = f s := by
  rcases senseTimeoutOp_cases s expire with ⟨-, h⟩ | ⟨n, -, -, h⟩ | ⟨n, -, -, h⟩ <;> rw [h]
  · rw [hexpire, hcount]
  · exact hcount _ s.touch.senseTimeout

@[simp] theorem calibrationReading_baseline (raw : Half) (s : State) :
    (calibrationReading raw s).touch.baseline = s.touch.baseline := by unfold calibrationReading; split <;> rfl

namespace PhaseRow

variable {c : PhaseCode} {s t : State}

/-- No row writes the parameter record. -/
theorem params (h : PhaseRow s c t) : t.params = s.params := by
  cases h with
  | debounce hrow => exact hrow.params
  | senseHold _ => exact senseTimeoutOp_field State.params s (fun _ _ => rfl) abandonReading_params
  | calHold _ => exact senseTimeoutOp_field State.params s (fun _ _ => rfl) (calibrationReading_params _)
  | _ => simp

/-- A row reads the inputs and leaves the list to the cycle. -/
theorem inputs (h : PhaseRow s c t) : t.inputs = s.inputs := by
  cases h with
  | debounce hrow => exact hrow.inputs
  | senseHold _ => exact senseTimeoutOp_field State.inputs s (fun _ _ => rfl) abandonReading_inputs
  | calHold _ => exact senseTimeoutOp_field State.inputs s (fun _ _ => rfl) (calibrationReading_inputs _)
  | _ => simp

/-- RENDER alone writes the light buffer (20_memory.md R93). -/
theorem buf (h : PhaseRow s c t) (hc : c ≠ 2) : t.buf = s.buf := by
  cases h with
  | render => exact absurd rfl hc
  | debounce hrow => exact hrow.buf
  | senseHold _ => exact senseTimeoutOp_field State.buf s (fun _ _ => rfl) abandonReading_buf
  | calHold _ => exact senseTimeoutOp_field State.buf s (fun _ _ => rfl) (calibrationReading_buf _)
  | _ => simp

/-- CAL_DONE alone writes the baseline (42_touch_debouncer.md R205). -/
theorem baseline (h : PhaseRow s c t) (hc : c ≠ 10) : t.touch.baseline = s.touch.baseline := by
  cases h with
  | calDone => exact absurd rfl hc
  | debounce hrow => exact hrow.baseline
  | senseHold _ => exact senseTimeoutOp_field (·.touch.baseline) s (fun _ _ => rfl) fun _ => rfl
  | calHold _ => exact senseTimeoutOp_field (·.touch.baseline) s (fun _ _ => rfl) (calibrationReading_baseline _)
  | _ => simp

/-- SND_STEP and DEBOUNCE alone write the sound registers. -/
theorem snd (h : PhaseRow s c t) (h1 : c ≠ 1) (h7 : c ≠ 7) : t.snd = s.snd := by
  cases h with
  | sound => exact absurd rfl h1
  | debounce => exact absurd rfl h7
  | senseHold _ => exact senseTimeoutOp_field State.snd s (fun _ _ => rfl) abandonReading_snd
  | calHold _ => exact senseTimeoutOp_field State.snd s (fun _ _ => rfl) (calibrationReading_snd _)
  | _ => simp

/-- TX_START alone, of the dispatcher's rows, writes `tx_*` (10_state.md R45). -/
theorem tx (h : PhaseRow s c t) (hc : c ≠ 3) : t.tx = s.tx := by
  cases h with
  | load => exact absurd rfl hc
  | debounce hrow => exact hrow.tx
  | senseHold _ => exact senseTimeoutOp_field State.tx s (fun _ _ => rfl) abandonReading_tx
  | calHold _ => exact senseTimeoutOp_field State.tx s (fun _ _ => rfl) (calibrationReading_tx _)
  | _ => simp

/-- RENDER and DEBOUNCE alone write `touched`. -/
theorem touched (h : PhaseRow s c t) (h2 : c ≠ 2) (h7 : c ≠ 7) : t.touched = s.touched := by
  cases h with
  | render => exact absurd rfl h2
  | debounce => exact absurd rfl h7
  | senseHold _ => exact senseTimeoutOp_field State.touched s (fun _ _ => rfl) abandonReading_touched
  | calHold _ => exact senseTimeoutOp_field State.touched s (fun _ _ => rfl) (calibrationReading_touched _)
  | _ => simp

/-- `touched` is set by a touch start alone: RENDER can only clear it (R207, 43_animation_engine.md R236). -/
theorem touched_set (h : PhaseRow s c t) (hs : s.touched = false) (ht : t.touched = true) :
    c = 7 ∧ s.touch.dbState = 0 := by
  by_cases h2 : c = 2
  · subst h2
    cases h
    simp [touchedAfterRender, hs] at ht
  by_cases h7 : c = 7
  · subst h7
    cases h with
    | debounce hrow => exact ⟨rfl, hrow.touched_set hs ht⟩
  · simp [h.touched h2 h7, hs] at ht

/-- `touched` is cleared by RENDER or by a mode advance alone (R209, 43_animation_engine.md R236). -/
theorem touched_clear (h : PhaseRow s c t) (hs : s.touched = true) (ht : t.touched = false) :
    c = 2 ∨ (c = 7 ∧ s.touch.dbState = 1) := by
  by_cases h2 : c = 2
  · exact .inl h2
  by_cases h7 : c = 7
  · subst h7
    cases h with
    | debounce hrow => exact .inr ⟨rfl, hrow.touched_clear hs ht⟩
  · simp [h.touched h2 h7, hs] at ht

end PhaseRow

/-! ## An answering step -/

/-- A step that answers a next state has a legal record, and it is a reset, or a cycle that performs the row of `phase` and
the row of `tx_phase` on the state it starts with (10_state.md R30, 60_exceptions.md R327). -/
theorem step_next_cases {s t : State} (h : step s = .next t) :
    s.params.legal = true ∧
      ((inRst (currentIn s) = true ∧ t = popInput (resetState s)) ∨
       (inRst (currentIn s) = false ∧ s.invariant = true ∧ ∃ a b,
          PhaseRow (driveInput s (currentIn s)) s.phase a ∧
          SerializerRow (driveInput s (currentIn s)) s.tx.phase b ∧
          t = { popInput (commitCycle (driveInput s (currentIn s)) a b) with
            tickOverrun := a.tickOverrun || (inTick (currentIn s) && busy s) })) := by
  rcases step_cases s with ⟨hrst, hs⟩ | ⟨hrst, hs⟩ <;> rw [hs] at h
  · split at h <;> cases h
    next hlegal => exact ⟨hlegal, .inl ⟨hrst, rfl⟩⟩
  · obtain ⟨u, hu, ht⟩ := andThen_eq_next.1 h
    obtain ⟨hlegal, -, -, hinv, a, b, ha, hb, rfl⟩ := runCycle_eq_next.1 hu
    rw [dispatcherOp_eq_exec] at ha
    rw [serializerOp_eq_exec] at hb
    refine ⟨hlegal, .inr ⟨hrst, hinv, a, b, phaseRow_of_exec ha, serializerRow_of_exec hb, ?_⟩⟩
    cases ht
    apply state_ext <;> cases inTick (currentIn s) <;> simp

end Sys2Proof.Machine

/-! SUPPORT. The invariants of 10_state.md R45: their clauses by name, what they depend on, and that every row, every cycle and
every step keeps them. -/

namespace Sys2Proof.Machine

/-! ## The clauses by name -/

/-- The clauses of R45 on `db_state`, `dur` and `hold`. -/
structure DebouncerLegal (p : Params) (dbState : Code2) (dur hold : BitVec 8) : Prop where
  dbState_ne : dbState ≠ 3
  dur_lt : dur.toNat < p.longTouch
  dur_eq_zero : dbState ≠ 1 → dur = 0
  hold_le : hold.toNat ≤ p.holdoffTicks
  hold_eq_zero : dbState ≠ 2 → hold = 0
  hold_pos : dbState = 2 → 1 ≤ hold.toNat

/-- The clauses of R45 on `tone_vol` and `snd_steps`. -/
structure SoundLegal (p : Params) (q : Sound) : Prop where
  toneVol_ne : q.toneVol ≠ 3
  steps_le : q.steps.toNat ≤ p.sndMaxSteps

/-- The clauses of R45. -/
structure State.Invariants (s : State) : Prop where
  phase_le : s.phase.toNat ≤ 10
  mode_lt : s.mode.toNat < s.params.modeCount
  debouncer : DebouncerLegal s.params s.touch.dbState s.touch.dur s.touch.hold
  sound : SoundLegal s.params s.snd
  bit_le : s.tx.bit.toNat ≤ 47
  tx_idle : s.tx.phase ≠ 0 → s.phase = 4

theorem codesLegal_iff {s : State} : codesLegal s = true ↔
    s.phase.toNat ≤ 10 ∧ s.touch.dbState ≠ 3 ∧ s.mode.toNat < s.params.modeCount ∧ SoundLegal s.params s.snd := by
  simp only [codesLegal, Bool.and_eq_true, decide_eq_true_eq, bne_iff_ne]
  exact ⟨fun ⟨⟨⟨⟨hp, hd⟩, hm⟩, hv⟩, hn⟩ => ⟨hp, hd, hm, hv, hn⟩, fun ⟨hp, hd, hm, hv, hn⟩ => ⟨⟨⟨⟨hp, hd⟩, hm⟩, hv⟩, hn⟩⟩

theorem countersLegal_iff {s : State} : countersLegal s = true ↔
    s.touch.dur.toNat < s.params.longTouch ∧ (s.touch.dbState ≠ 1 → s.touch.dur = 0) ∧
      s.touch.hold.toNat ≤ s.params.holdoffTicks ∧ (s.touch.dbState ≠ 2 → s.touch.hold = 0) ∧
      (s.touch.dbState = 2 → 1 ≤ s.touch.hold.toNat) := by
  simp only [countersLegal, Bool.and_eq_true, Bool.or_eq_true, decide_eq_true_eq, beq_iff_eq, and_assoc,
    or_iff_not_imp_left]
  by_cases h2 : s.touch.dbState = 2#2
  · simp [h2]
  · simp [h2]

theorem serialLegal_iff {s : State} : serialLegal s = true ↔
    s.tx.bit.toNat ≤ 47 ∧ (s.tx.phase ≠ 0 → s.phase = 4) := by
  simp [serialLegal, or_iff_not_imp_left]

/-- The model's check of R45 is the conjunction of its clauses. -/
theorem invariant_iff {s : State} : s.invariant = true ↔ s.Invariants := by
  simp only [State.invariant, Bool.and_eq_true, codesLegal_iff, countersLegal_iff, serialLegal_iff]
  constructor
  · rintro ⟨⟨⟨hphase, hdb, hmode, hsound⟩, hdur, hdur0, hhold, hhold0, hpos⟩, hbit, htx⟩
    exact ⟨hphase, hmode, ⟨hdb, hdur, hdur0, hhold, hhold0, hpos⟩, hsound, hbit, htx⟩
  · rintro ⟨hphase, hmode, ⟨hdb, hdur, hdur0, hhold, hhold0, hpos⟩, hsound, hbit, htx⟩
    exact ⟨⟨⟨hphase, hdb, hmode, hsound⟩, hdur, hdur0, hhold, hhold0, hpos⟩, hbit, htx⟩

/-! ## What R45 does not depend on -/

@[simp] theorem driveInput_invariant (s : State) (v : InVec) : (driveInput s v).invariant = s.invariant := rfl

@[simp] theorem popInput_invariant (s : State) : (popInput s).invariant = s.invariant := rfl

@[simp] theorem driveInput_txIsIdle (s : State) (v : InVec) : txIsIdle (driveInput s v) = txIsIdle s := rfl

/-! ## What a legal record gives (00_scope.md R7) -/

theorem modeCount_range {p : Params} (h : p.legal = true) : 1 ≤ p.modeCount ∧ p.modeCount ≤ 256 := by
  simp only [Params.legal, Params.modeLegal, inRange, Bool.and_eq_true, decide_eq_true_eq] at h
  omega

theorem longTouch_range {p : Params} (h : p.legal = true) : 2 ≤ p.longTouch ∧ p.longTouch ≤ 255 := by
  simp only [Params.legal, Params.touchLegal, inRange, Bool.and_eq_true, decide_eq_true_eq] at h
  omega

theorem holdoffTicks_le {p : Params} (h : p.legal = true) : p.holdoffTicks ≤ 255 := by
  simp only [Params.legal, Params.touchLegal, inRange, Bool.and_eq_true, decide_eq_true_eq] at h
  omega

theorem sndMaxSteps_le {p : Params} (h : p.legal = true) : p.sndMaxSteps ≤ 255 := by
  simp only [Params.legal, Params.soundLegal, inRange, Bool.and_eq_true, decide_eq_true_eq] at h
  omega

/-! ## The reset state -/

/-- The reset state keeps R45 under every legal record (70_reset_and_hazards.md R350). -/
theorem resetState_invariant {s : State} (hl : s.params.legal = true) : (resetState s).invariant = true := by
  have hmode := modeCount_range hl
  have hlong := longTouch_range hl
  refine invariant_iff.2
    { phase_le := by simp
      mode_lt := by simp; omega
      debouncer := ⟨by simp [Touch.reset], ?_, fun _ => rfl, Nat.zero_le _, fun _ => rfl, fun h => by cases h⟩
      sound := ⟨by simp [Sound.reset], Nat.zero_le _⟩
      bit_le := Nat.zero_le _
      tx_idle := fun h => absurd rfl h }
  show 0 < s.params.longTouch
  omega

/-! ## The sound sequencer keeps its clauses -/

/-- Entering an entry keeps the sound clauses: the bound is tested before the count, and a step with volume 3 is not entered
(44_sound_sequencer.md R267, R272). -/
theorem enterEntry_soundLegal {e : Entry} {s t : State} (h : enterEntry e s = .next t) (hl : s.params.legal = true)
    (hs : s.snd.steps.toNat ≤ s.params.sndMaxSteps) : SoundLegal t.params t.snd := by
  have hmax := sndMaxSteps_le hl
  rcases enterEntry_eq_next.1 h with ⟨-, rfl⟩ | ⟨-, -, rfl⟩ | ⟨-, hbound, hvol, rfl⟩
  · exact ⟨by simp, hs⟩
  · exact ⟨by simp, hs⟩
  · refine ⟨hvol, ?_⟩
    simp only [driveVolume_snd, driveVolume_params, loadStep_snd, loadStep_params, BitVec.toNat_ofNat]
    omega

theorem sndEnter_soundLegal {i : Nat} {s t : State} (h : sndEnter i s = .next t) (hl : s.params.legal = true)
    (hs : s.snd.steps.toNat ≤ s.params.sndMaxSteps) : SoundLegal t.params t.snd := by
  obtain ⟨-, e, -, he⟩ := withRomEntry_eq_next.1 h
  exact enterEntry_soundLegal he hl hs

/-- A program starts with a step count of 0, whatever the count was (44_sound_sequencer.md R266). -/
theorem sndStart_soundLegal {prog : Nat} {s t : State} (h : sndStart prog s = .next t) (hl : s.params.legal = true) :
    SoundLegal t.params t.snd := by
  unfold sndStart at h
  split at h
  · exact sndEnter_soundLegal h hl (Nat.zero_le _)
  · cases h

theorem sndAdvance_soundLegal {s t : State} (h : sndAdvance s = .next t) (hl : s.params.legal = true)
    (hs : s.snd.steps.toNat ≤ s.params.sndMaxSteps) : SoundLegal t.params t.snd := by
  unfold sndAdvance at h
  split at h
  · cases h; exact ⟨by simp, hs⟩
  · exact sndEnter_soundLegal h hl hs

/-- A sound step keeps the sound clauses: the glide touches neither, and an advance enters an entry (R269, R270). -/
theorem sndStep_soundLegal {s t : State} (h : sndStep s = .next t) (hl : s.params.legal = true)
    (hs : SoundLegal s.params s.snd) : SoundLegal t.params t.snd := by
  obtain ⟨-, e, -, he⟩ := withRomEntry_eq_next.1 h
  split at he
  · exact sndAdvance_soundLegal he hl hs.steps_le
  · split at he
    · exact sndAdvance_soundLegal he hl hs.steps_le
    · cases he; exact ⟨hs.toneVol_ne, hs.steps_le⟩

theorem startBoop_soundLegal {s t : State} (h : startBoop s = .next t) (hl : s.params.legal = true)
    (hs : SoundLegal s.params s.snd) : SoundLegal t.params t.snd := by
  unfold startBoop at h
  split at h
  · split at h
    · exact sndStart_soundLegal h hl
    · cases h; exact hs
    · cases h
  · cases h

/-! ## The debouncer keeps its clauses -/

namespace DebouncerRow

variable {s t : State}

/-- The debouncer's row of the current state keeps the clauses on `db_state`, `dur` and `hold`. -/
theorem debouncerLegal (h : DebouncerRow s s.touch.dbState t) (hl : s.params.legal = true)
    (hs : DebouncerLegal s.params s.touch.dbState s.touch.dur s.touch.hold) :
    DebouncerLegal t.params t.touch.dbState t.touch.dur t.touch.hold := by
  have hlong := longTouch_range hl
  have hhold := holdoffTicks_le hl
  generalize hc : s.touch.dbState = c at h hs
  cases h with
  | quiet => rw [hc]; exact hs
  | touchStart =>
    exact ⟨by simp, by simp; omega, fun h => absurd rfl h, hs.hold_le, fun _ => hs.hold_eq_zero (by decide), by simp⟩
  | touchCount _ hdur =>
    have hlt := hs.dur_lt
    refine ⟨by simp [hc], ?_, fun h => absurd hc h, hs.hold_le, fun _ => hs.hold_eq_zero (by decide), by simp [hc]⟩
    simp only [BitVec.toNat_ofNat]
    omega
  | longTouch =>
    exact ⟨by simp [hc], by simp; omega, fun _ => rfl, hs.hold_le, fun _ => hs.hold_eq_zero (by decide), by simp [hc]⟩
  | release =>
    unfold releaseTouch
    split
    next => exact ⟨by simp, by simp; omega, fun _ => rfl, hs.hold_le, fun _ => hs.hold_eq_zero (by decide), by simp⟩
    next h0 =>
      have hmod : s.params.holdoffTicks % 256 = s.params.holdoffTicks := by omega
      exact ⟨by simp, by simp; omega, fun _ => rfl, by simp [hmod], by simp, by simp [hmod]; omega⟩
  | holdoff =>
    have hpos := hs.hold_pos rfl
    have hle := hs.hold_le
    have hsub : (s.touch.hold - 1).toNat = s.touch.hold.toNat - 1 := by bv_omega
    by_cases h0 : s.touch.hold - 1 = 0
    · simp only [h0, if_true]
      exact ⟨by decide, hs.dur_lt, fun _ => hs.dur_eq_zero (by decide), Nat.zero_le _, fun _ => rfl, by simp⟩
    · simp only [h0, if_false, hc]
      exact ⟨by decide, hs.dur_lt, hs.dur_eq_zero, by omega, by simp, fun _ => by bv_omega⟩

/-- A mode advance stays below the number of modes (R209). -/
theorem mode_lt {c : Code2} (h : DebouncerRow s c t) (hl : s.params.legal = true)
    (hs : s.mode.toNat < s.params.modeCount) : t.mode.toNat < t.params.modeCount := by
  cases h with
  | longTouch =>
    have hmode := modeCount_range hl
    have hlt : (s.mode.toNat + 1) % s.params.modeCount < s.params.modeCount := Nat.mod_lt _ (by omega)
    simp only [BitVec.toNat_ofNat]
    omega
  | release => simpa using hs
  | _ => exact hs

theorem soundLegal {c : Code2} (h : DebouncerRow s c t) (hl : s.params.legal = true)
    (hs : SoundLegal s.params s.snd) : SoundLegal t.params t.snd := by
  cases h with
  | touchStart _ hboop => exact startBoop_soundLegal hboop hl hs
  | longTouch _ _ hadv => exact sndStart_soundLegal hadv hl
  | release => simpa using hs
  | _ => exact hs

end DebouncerRow

/-! ## Every row keeps R45 -/

namespace State.Invariants

variable {s t : State}

/-- The serializer is idle in every phase but TX_WAIT. -/
theorem tx_phase_eq_zero (h : s.Invariants) (h4 : s.phase ≠ 4) : s.tx.phase = 0 :=
  Decidable.byContradiction fun hne => h4 (h.tx_idle hne)

/-- While the serializer is idle, an update of the other registers keeps R45 if it keeps the clauses on what it writes. -/
theorem update (h : s.Invariants) (hidle : s.tx.phase = 0) (htx : t.tx = s.tx) (hphase : t.phase.toNat ≤ 10)
    (hmode : t.mode.toNat < t.params.modeCount)
    (hdeb : DebouncerLegal t.params t.touch.dbState t.touch.dur t.touch.hold) (hsnd : SoundLegal t.params t.snd) :
    t.Invariants where
  phase_le := hphase
  mode_lt := hmode
  debouncer := hdeb
  sound := hsnd
  bit_le := htx ▸ h.bit_le
  tx_idle := fun hne => absurd (htx ▸ hidle) hne

theorem setPhase (h : s.Invariants) (hidle : s.tx.phase = 0) {p : PhaseCode} (hp : p.toNat ≤ 10) :
    (setPhase s p).Invariants :=
  h.update hidle rfl hp h.mode_lt h.debouncer h.sound

/-- R45 says nothing of the registers of a request. -/
theorem countRequest (h : s.Invariants) (tmr : BitVec 20) (flag : Bool) :
    State.Invariants { s with touch := { s.touch with senseTmr := tmr, senseTimeout := flag } } :=
  ⟨h.phase_le, h.mode_lt, h.debouncer, h.sound, h.bit_le, h.tx_idle⟩

theorem captureReading (h : s.Invariants) (hidle : s.tx.phase = 0) (raw : Half) :
    (captureReading raw s).Invariants :=
  h.update hidle rfl (by simp) h.mode_lt h.debouncer h.sound

theorem abandonReading (h : s.Invariants) (hidle : s.tx.phase = 0) : (abandonReading s).Invariants :=
  h.update hidle rfl (by simp) h.mode_lt h.debouncer h.sound

theorem calibrationReading (h : s.Invariants) (hidle : s.tx.phase = 0) (raw : Half) :
    (calibrationReading raw s).Invariants := by
  unfold Machine.calibrationReading
  split
  · exact h.update hidle rfl (by simp) h.mode_lt h.debouncer h.sound
  · exact h.update hidle rfl (by simp) h.mode_lt h.debouncer h.sound

/-- A request cycle without an ack keeps R45 if its expiry does. -/
theorem senseTimeoutOp (h : s.Invariants) (hidle : s.tx.phase = 0) {expire : State → State}
    (hexpire : ∀ u : State, u.Invariants → u.tx.phase = 0 → (expire u).Invariants) :
    (senseTimeoutOp s expire).Invariants := by
  rcases senseTimeoutOp_cases s expire with ⟨-, hs⟩ | ⟨n, -, -, hs⟩ | ⟨n, -, -, hs⟩ <;> rw [hs]
  · exact h
  · exact hexpire _ (h.countRequest _ _) hidle
  · exact h.countRequest _ _

end State.Invariants

/-- The dispatcher's row of the current phase keeps R45. -/
theorem PhaseRow.invariants {s t : State} (h : PhaseRow s s.phase t) (hl : s.params.legal = true)
    (hs : s.Invariants) : t.Invariants := by
  have hidle : s.phase ≠ 4 → s.tx.phase = 0 := hs.tx_phase_eq_zero
  generalize s.phase = c at h hidle
  cases h with
  | idle => exact hs
  | accept => exact hs.setPhase (hidle (by decide)) (by decide)
  | silent => exact hs.setPhase (hidle (by decide)) (by decide)
  | sound _ hstep =>
    have hsound := sndStep_soundLegal hstep hl hs.sound
    exact hs.update (hidle (by decide)) rfl (by simp) hs.mode_lt hs.debouncer hsound
  | render => exact hs.update (hidle (by decide)) rfl (by simp) hs.mode_lt hs.debouncer hs.sound
  | load => exact ⟨by simp, hs.mode_lt, hs.debouncer, hs.sound, by simp, fun _ => rfl⟩
  | txBusy => exact hs
  | txDone hnow => exact hs.setPhase (txIsIdle_iff.1 hnow) (by decide)
  | frameInc =>
    refine hs.update (hidle (by decide)) rfl ?_ hs.mode_lt hs.debouncer hs.sound
    dsimp only
    split <;> simp
  | capture => exact hs.captureReading (hidle (by decide)) _
  | senseHold => exact hs.senseTimeoutOp (hidle (by decide)) fun _ hu h0 => hu.abandonReading h0
  | debounce hrow =>
    exact hs.update (hidle (by decide)) hrow.tx (by simp) (hrow.mode_lt hl hs.mode_lt)
      (hrow.debouncerLegal hl hs.debouncer) (hrow.soundLegal hl hs.sound)
  | calReading => exact hs.calibrationReading (hidle (by decide)) _
  | calHold => exact hs.senseTimeoutOp (hidle (by decide)) fun _ hu h0 => hu.calibrationReading h0 _
  | gapEnd => exact hs.setPhase (hidle (by decide)) (by decide)
  | gapCount => exact hs.update (hidle (by decide)) rfl hs.phase_le hs.mode_lt hs.debouncer hs.sound
  | calDone => exact hs.update (hidle (by decide)) rfl (by simp) hs.mode_lt hs.debouncer hs.sound

/-- The row of an idle serializer changes nothing (41_light_transmitter.md R177). -/
theorem SerializerRow.eq_of_idle {s t : State} (h : SerializerRow s 0 t) : t = s := by
  cases h with
  | idle => rfl
  | count hc => exact absurd rfl hc

/-- The serializer's row of the current serializer phase keeps R45: only a busy serializer, which runs in TX_WAIT, goes on. -/
theorem SerializerRow.invariants {s t : State} (h : SerializerRow s s.tx.phase t) (hs : s.Invariants) :
    t.Invariants := by
  by_cases h0 : s.tx.phase = 0
  · rw [h0] at h; rw [h.eq_of_idle]; exact hs
  · rw [h.eq_with_tx]
    exact ⟨hs.phase_le, hs.mode_lt, hs.debouncer, hs.sound, h.tx_bit_le hs.bit_le, fun _ => hs.tx_idle h0⟩

/-! ## Every cycle and every step keeps R45 -/

/-- In a state that keeps R45 one of the two agents writes nothing: the serializer while it is idle, the dispatcher in TX_WAIT
while the serializer is busy. -/
theorem commitCycle_eq {s a b : State} (hs : s.Invariants) (ha : PhaseRow s s.phase a)
    (hb : SerializerRow s s.tx.phase b) : commitCycle s a b = if txIsIdle s then a else b := by
  unfold commitCycle
  split
  · rfl
  next hbusy =>
    rw [hs.tx_idle (mt txIsIdle_iff.2 hbusy)] at ha
    cases ha with
    | txBusy => exact hb.eq_with_tx.symm
    | txDone hidle => exact absurd hidle hbusy

theorem commitCycle_invariants {s a b : State} (hl : s.params.legal = true) (hs : s.Invariants)
    (ha : PhaseRow s s.phase a) (hb : SerializerRow s s.tx.phase b) : (commitCycle s a b).Invariants := by
  rw [commitCycle_eq hs ha hb]
  split
  · exact ha.invariants hl hs
  · exact hb.invariants hs

/-- Every step that answers a next state leaves one that keeps R45, whatever state it started in (10_state.md R45). -/
theorem step_invariant {s t : State} (h : step s = .next t) : t.invariant = true := by
  obtain ⟨hlegal, ⟨-, rfl⟩ | ⟨-, hinv, a, b, ha, hb, rfl⟩⟩ := step_next_cases h
  · rw [popInput_invariant]
    exact resetState_invariant hlegal
  · have hstart : (driveInput s (currentIn s)).Invariants := invariant_iff.1 (by rwa [driveInput_invariant])
    have hcycle : (commitCycle (driveInput s (currentIn s)) a b).invariant = true :=
      invariant_iff.2 (commitCycle_invariants hlegal hstart ha hb)
    exact hcycle

end Sys2Proof.Machine

/-! SUPPORT. The obligations of 10_state.md: the step, the cycle, the invariants and who writes what. -/

namespace Sys2Proof.Machine

/-- Settles O14: a step is a reset or a cycle, and in a cycle only one of the two agents writes what R45 speaks of; the other
clauses are the inversion of the rows. -/
theorem everyStepKeepsTheInvariants : Obligations.EveryStepKeepsTheInvariants := by
  refine ⟨fun s t h => ?_, fun c s t h => (serializerRow_of_exec h).eq_with_tx,
    fun c s t h hc => (phaseRow_of_exec h).tx hc, fun s t h => ?_⟩
  · obtain ⟨hphase, hmode, ⟨hdb, hdur, hdur0, hhold, hhold0, hpos⟩, ⟨hvol, hsteps⟩, hbit, htx⟩ :=
      invariant_iff.1 (step_invariant h)
    exact ⟨hphase, hdb, hmode, hdur, hdur0, hhold, hhold0, hpos, hbit, htx, hvol, hsteps⟩
  · cases phaseRow_of_exec (c := 3) h with
    | load hidle => exact txIsIdle_iff.1 hidle

/-- Without reset and tick a step's instruction is one cycle with its vector (30_encoding.md R102). -/
theorem exec_senseAck_or_nop (ack : Bool) (d : Half) (s : State) :
    exec (if ack then .senseAck d else .nop d) s = runCycle (inputVector false false ack d) s := by
  cases ack <;> rfl

/-- Settles O8: the cycle's two operations are the rows of `phase` and `tx_phase`, and no row consumes the input list. -/
theorem cycleRunsPhaseAndSerializer : Obligations.CycleRunsPhaseAndSerializer := by
  intro s a b ack d hlegal hinv ha hb
  have hinputs : a.inputs = inputVector false false ack d :: s.inputs.tail := (phaseRow_of_exec ha).inputs
  have hcycle : runCycle (inputVector false false ack d) s =
      .next (popInput (commitCycle (driveInput s (inputVector false false ack d)) a b)) := by
    simp [runCycle, bothOps, admitted_of_legal hlegal hinv, dispatcherOp_eq_exec, serializerOp_eq_exec, ha, hb]
  rw [exec_senseAck_or_nop, hcycle]
  congr 1
  apply state_ext <;> simp [hinputs, txIsIdle_iff]

/-- Settles O52: in each row that is not the field's writer the field is unchanged, and a cycle commits the rows' writes. -/
theorem fieldsHaveTheirWriters : Obligations.FieldsHaveTheirWriters := by
  intro s t h
  obtain ⟨-, ⟨hrst, rfl⟩ | ⟨-, -, a, b, ha, hb, rfl⟩⟩ := step_next_cases h
  · exact ⟨rfl, rfl, fun hno => by simp [hrst] at hno⟩
  · refine ⟨by simpa using ha.params, by simp [ha.inputs], fun _ => ⟨fun hne => ?_, fun hne => ?_, fun hne => ?_,
      fun hne => ?_, fun hs ht => ha.touched_set hs (by simpa using ht),
      fun hs ht => ha.touched_clear hs (by simpa using ht)⟩⟩
    · by_contra hc
      exact hne (by simpa using ha.buf hc)
    · by_contra hc
      exact hne (by simpa using ha.baseline hc)
    · by_contra hc
      refine hne ?_
      simp only [popInput_tx, commitCycle_tx]
      split
      · rw [ha.tx hc, driveInput_tx]
      · rw [hb.tx_sh, driveInput_tx]
    · by_contra hc
      obtain ⟨h1, h7⟩ := not_or.1 hc
      exact hne (by simpa using ha.snd h1 h7)

/-- Settles O7: the decoder of the input format reads every vector, and reads it as the step does. -/
theorem stepRunsTheDecodedInput : Obligations.StepRunsTheDecodedInput := by
  intro s i h
  have hfits : ¬ 2 ^ Format.input.width ≤ (currentIn s).toNat := Nat.not_le.2 (currentIn s).isLt
  have hi : decodeIn (currentIn s) = i := by simpa [decode, hfits] using h
  rw [step, fetch, hi]

/-- Settles O15: the record check, the sound pointer and the calibration count are evaluated; R45 and the buffer's form are
those of every reset state. -/
theorem resetStateIsGood : Obligations.ResetStateIsGood := by
  have hlegal : State.reset.params.legal = true := by decide +kernel
  have hinv : State.reset.invariant = true := resetState_invariant hlegal
  have hsound : soundSafe State.reset = true := by decide
  have hcal : calibrationSafe State.reset = true := by decide
  simp only [Obligations.ResetStateIsGood, State.good, hlegal, hinv, reset_buf_wf, hsound, hcal, Bool.and_true]

end Sys2Proof.Machine

/-! SUPPORT. The obligation of 20_memory.md: every step keeps the light buffer's canonical form. -/

namespace Sys2Proof.Machine

/-- The dispatcher's row of any phase keeps the buffer's form: RENDER writes its six bytes inside the buffer
(43_animation_engine.md R235), and no other row writes it (20_memory.md R93). -/
theorem PhaseRow.buf_wf {c : PhaseCode} {s t : State} (h : PhaseRow s c t) (hs : Memory.wf s.buf = true) :
    Memory.wf t.buf = true := by
  by_cases hc : c = 2
  · subst hc
    cases h with
    | render => exact lightBytes_wf _ _ _ _ hs
  · rwa [h.buf hc]

/-- Settles O17: a reset empties the buffer, and a cycle's buffer is the one its dispatcher row leaves. -/
theorem everyStepKeepsTheBufferCanonical : Obligations.EveryStepKeepsTheBufferCanonical := by
  intro s t hs h
  obtain ⟨-, ⟨-, rfl⟩ | ⟨-, -, a, b, ha, -, rfl⟩⟩ := step_next_cases h
  · exact reset_buf_wf
  · have hrow : Memory.wf a.buf = true := ha.buf_wf hs
    simpa using hrow

end Sys2Proof.Machine

/-! SUPPORT. The rules of the encoding: what the fields of a vector and of a sound ROM entry are, and what the decoder and
the encoder of each format make of one another. -/

namespace Sys2Proof

/-! ## The fields of an input vector (30_encoding.md R101) -/

/-- The reading is the low half of the vector. -/
theorem inData_eq_ofNat (v : InVec) : inData v = BitVec.ofNat 16 v.toNat := rfl

/-- A vector with the reset bit is that bit in front of the bits that RESET carries. -/
theorem cons_of_inRst {v : InVec} (h : inRst v = true) : BitVec.cons true (v.extractLsb' 0 18) = v := by
  have hmsb : v.msb = true := h
  rw [← hmsb, ← BitVec.setWidth_eq_extractLsb' (by decide)]
  exact BitVec.cons_msb_setWidth v

/-! ## The events of an input vector (30_encoding.md R102) -/

/-- The decoder reads the vector of a tick, a SENSE_ACK or a NOP as the event it was assembled for (30_encoding.md R102). -/
theorem decodeIn_inputVector (tick ack : Bool) (d : Half) :
    decodeIn (inputVector false tick ack d) =
      if tick then .tick ack d else if ack then .senseAck d else .nop d := by
  simp [decodeIn]

/-- A vector with the reset bit is decoded as RESET, whatever the other bits (30_encoding.md R102). -/
theorem decodeIn_cons_true (rest : BitVec 18) : decodeIn (BitVec.cons true rest) = .reset rest := by
  have hrst : inRst (BitVec.cons true rest) = true := by simp [inRst, BitVec.getLsbD_cons]
  rw [decodeIn, if_pos hrst, BitVec.extractLsb'_cons]

/-! ## The fields of a sound ROM entry (30_encoding.md R110) -/

theorem entryFreq_eq_ofNat (e : Entry) : entryFreq e = BitVec.ofNat 16 e.toNat := rfl

theorem entryDur_eq_ofNat (e : Entry) : entryDur e = BitVec.ofNat 16 (e.toNat / 2 ^ 16) := by
  rw [entryDur, BitVec.extractLsb', Nat.shiftRight_eq_div_pow]

theorem entryGlide_eq_ofNat (e : Entry) : entryGlide e = BitVec.ofNat 16 (e.toNat / 2 ^ 32) := by
  rw [entryGlide, BitVec.extractLsb', Nat.shiftRight_eq_div_pow]

theorem entryVol_eq_ofNat (e : Entry) : entryVol e = BitVec.ofNat 2 (e.toNat / 2 ^ 48) := by
  rw [entryVol, BitVec.extractLsb', Nat.shiftRight_eq_div_pow]

theorem entryReserved_eq_ofNat (e : Entry) : entryReserved e = BitVec.ofNat 14 (e.toNat / 2 ^ 50) := by
  rw [entryReserved, BitVec.extractLsb', Nat.shiftRight_eq_div_pow]

/-- An assembled entry is the sum of its fields at their places. -/
theorem entryOf_toNat (f d g : Half) (v : Code2) (r : BitVec 14) :
    (entryOf f d g v r).toNat =
      f.toNat + 2 ^ 16 * d.toNat + 2 ^ 32 * g.toNat + 2 ^ 48 * v.toNat + 2 ^ 50 * r.toNat := by
  have hf := f.isLt
  have hd := d.isLt
  have hg := g.isLt
  have hv := v.isLt
  have hr := r.isLt
  rw [entryOf, BitVec.setWidth_eq, BitVec.toNat_append, BitVec.toNat_append, BitVec.toNat_append, BitVec.toNat_append]
  rw [← Nat.shiftLeft_add_eq_or_of_lt hv, ← Nat.shiftLeft_add_eq_or_of_lt hg, ← Nat.shiftLeft_add_eq_or_of_lt hd,
    ← Nat.shiftLeft_add_eq_or_of_lt hf]
  simp only [Nat.shiftLeft_eq]
  omega

section
variable (f d g : Half) (v : Code2) (r : BitVec 14)

/-- Each field of an assembled entry is the one that was put there: the fields do not overlap. -/
theorem fields_entryOf :
    entryFreq (entryOf f d g v r) = f ∧ entryDur (entryOf f d g v r) = d ∧ entryGlide (entryOf f d g v r) = g ∧
      entryVol (entryOf f d g v r) = v ∧ entryReserved (entryOf f d g v r) = r := by
  have hf := f.isLt
  have hd := d.isLt
  have hg := g.isLt
  have hv := v.isLt
  have hr := r.isLt
  simp only [entryFreq_eq_ofNat, entryDur_eq_ofNat, entryGlide_eq_ofNat, entryVol_eq_ofNat, entryReserved_eq_ofNat,
    ← BitVec.toNat_inj, BitVec.toNat_ofNat, entryOf_toNat]
  omega

@[simp] theorem entryFreq_entryOf : entryFreq (entryOf f d g v r) = f := (fields_entryOf f d g v r).1

@[simp] theorem entryDur_entryOf : entryDur (entryOf f d g v r) = d := (fields_entryOf f d g v r).2.1

@[simp] theorem entryGlide_entryOf : entryGlide (entryOf f d g v r) = g := (fields_entryOf f d g v r).2.2.1

@[simp] theorem entryVol_entryOf : entryVol (entryOf f d g v r) = v := (fields_entryOf f d g v r).2.2.2.1

@[simp] theorem entryReserved_entryOf : entryReserved (entryOf f d g v r) = r := (fields_entryOf f d g v r).2.2.2.2

end

/-- The fields of an entry assemble to the entry: they cover all its bits. -/
theorem entryOf_fields (e : Entry) :
    entryOf (entryFreq e) (entryDur e) (entryGlide e) (entryVol e) (entryReserved e) = e := by
  apply BitVec.eq_of_toNat_eq
  rw [entryOf_toNat, entryFreq_eq_ofNat, entryDur_eq_ofNat, entryGlide_eq_ofNat, entryVol_eq_ofNat,
    entryReserved_eq_ofNat]
  simp only [BitVec.toNat_ofNat]
  have := e.isLt
  omega

/-! ## The mask of the SENTINEL row (30_encoding.md R111) -/

theorem isSentinel_iff {e : Entry} : isSentinel e = true ↔ entryDur e = 0#16 := beq_iff_eq

/-- The mask of the SENTINEL row covers `DUR` and nothing else (30_encoding.md R111). -/
theorem sentinelMask_getLsbD {i : Nat} (hi : i < 64) :
    (0x00000000FFFF0000#64).getLsbD i = decide (16 ≤ i ∧ i < 32) := by
  have hbits : ∀ j : Fin 64, (0x00000000FFFF0000#64).getLsbD j = decide (16 ≤ j.val ∧ j.val < 32) := by decide
  exact hbits ⟨i, hi⟩

theorem entryDur_eq_zero_iff_mask (e : Entry) : entryDur e = 0#16 ↔ e &&& 0x00000000FFFF0000#64 = 0#64 := by
  have hdur {j : Nat} (hj : j < 16) : (entryDur e).getLsbD j = e.getLsbD (16 + j) := by
    simp [entryDur, hj]
  constructor
  · intro h
    apply BitVec.eq_of_getLsbD_eq
    intro i hi
    rw [BitVec.getLsbD_and, sentinelMask_getLsbD hi]
    by_cases hin : 16 ≤ i ∧ i < 32
    · obtain ⟨j, rfl⟩ := Nat.exists_eq_add_of_le hin.1
      rw [← hdur (by omega), h]
      simp
    · simp [hin]
  · intro h
    apply BitVec.eq_of_getLsbD_eq
    intro j hj
    have hin : 16 ≤ 16 + j ∧ 16 + j < 32 := by omega
    have hkept : (e &&& 0x00000000FFFF0000#64).getLsbD (16 + j) = e.getLsbD (16 + j) := by
      rw [BitVec.getLsbD_and, sentinelMask_getLsbD (by omega), decide_eq_true hin, Bool.and_true]
    rw [hdur hj, ← hkept, h]
    simp

/-! ## The kinds of a sound ROM entry (30_encoding.md R111) -/

theorem decodeSnd_of_dur_zero {e : Entry} (h : entryDur e = 0#16) :
    decodeSnd e = .sentinel (entryFreq e) (entryGlide e) (entryVol e) (entryReserved e) :=
  if_pos (isSentinel_iff.2 h)

theorem decodeSnd_of_dur_ne_zero {e : Entry} (h : entryDur e ≠ 0#16) :
    decodeSnd e = .stepEntry (entryFreq e) (entryDur e) (entryGlide e) (entryVol e) (entryReserved e) :=
  if_neg (mt isSentinel_iff.1 h)

theorem decodeSnd_entryOf_zero (f g : Half) (v : Code2) (r : BitVec 14) :
    decodeSnd (entryOf f 0#16 g v r) = .sentinel f g v r := by
  simp [decodeSnd_of_dur_zero]

theorem decodeSnd_entryOf (f g : Half) {d : Half} (v : Code2) (r : BitVec 14) (hd : d ≠ 0#16) :
    decodeSnd (entryOf f d g v r) = .stepEntry f d g v r := by
  simp [decodeSnd_of_dur_ne_zero, hd]

/-! ## A format's decoder reads the codes of its width (30_encoding.md R100) -/

theorem decode_input (v : InVec) : decode .input v.toNat = .ok (decodeIn v) := by
  simp [decode, Format.width, Nat.not_le.2 v.isLt]

theorem decode_ph (c : PhaseCode) : decode .ph c.toNat = .ok (decodePh c) := by
  simp [decode, Format.width, Nat.not_le.2 c.isLt]

theorem decode_txp (c : Code2) : decode .txp c.toNat = .ok (decodeTxp c) := by
  simp [decode, Format.width, Nat.not_le.2 c.isLt]

theorem decode_db (c : Code2) : decode .db c.toNat = .ok (decodeDb c) := by
  simp [decode, Format.width, Nat.not_le.2 c.isLt]

theorem decode_vol (c : Code2) : decode .vol c.toNat = .ok (decodeVol c) := by
  simp [decode, Format.width, Nat.not_le.2 c.isLt]

theorem decode_snd (e : Entry) : decode .snd e.toNat = .ok (decodeSnd e) := by
  simp [decode, Format.width, Nat.not_le.2 e.isLt]

/-- Two words are data symbols (30_encoding.md R115). -/
theorem decode_sym_eq_ok {w : Nat} {i : Instr} :
    decode .sym w = .ok i ↔ (w = bit0Wave ∧ i = .bit0) ∨ (w = bit1Wave ∧ i = .bit1) := by
  by_cases h0 : w = bit0Wave
  · subst h0
    simp [decode, Format.width, bit0Wave, bit1Wave, eq_comm]
  · by_cases h1 : w = bit1Wave
    · subst h1
      simp [decode, Format.width, bit0Wave, bit1Wave, eq_comm]
    · simp only [decode, h0, h1, ↓reduceIte, false_and, or_false, iff_false]
      split <;> simp

/-- One word is the latch (30_encoding.md R115). -/
theorem decode_symLatch_eq_ok {w : Nat} {i : Instr} : decode .symLatch w = .ok i ↔ w = 0 ∧ i = .latch := by
  by_cases h0 : w = 0
  · have hfits : ¬ 2 ^ Format.symLatch.width ≤ 0 := Nat.not_le.2 (Nat.two_pow_pos _)
    subst h0
    simp only [decode, hfits, ↓reduceIte, Except.ok.injEq, true_and, eq_comm]
  · simp only [decode, h0, ↓reduceIte, false_and, iff_false]
    split <;> simp

/-- A word that decodes is a code of its format's width. -/
theorem exists_code_of_decode {f : Format} {w : Nat} {i : Instr} (h : decode f w = .ok i) :
    ∃ c : BitVec f.width, c.toNat = w := by
  have hfits : w < 2 ^ f.width := by
    by_contra hwide
    simp [decode, Nat.not_lt.1 hwide] at h
  exact ⟨⟨w, hfits⟩, rfl⟩

/-! ## The encoder's word of a decoded code is the code -/

/-- The word of RESET is the reset bit in front of its operand. -/
theorem encode_reset (rest : BitVec 18) : encode (.reset rest) = (BitVec.cons true rest).toNat := by
  rw [BitVec.toNat_cons']
  rfl

/-- An input vector is the word of the event it is decoded to (30_encoding.md R102). -/
theorem format_encode_decodeIn (v : InVec) : (decodeIn v).format = .input ∧ encode (decodeIn v) = v.toNat := by
  cases hrst : inRst v with
  | true =>
    rw [← cons_of_inRst hrst, decodeIn_cons_true]
    exact ⟨rfl, encode_reset _⟩
  | false =>
    rw [← Machine.inputVector_fields v, hrst, decodeIn_inputVector]
    cases inTick v <;> cases inAck v <;> exact ⟨rfl, rfl⟩

theorem format_encode_decodePh (c : PhaseCode) : (decodePh c).format = .ph ∧ encode (decodePh c) = c.toNat := by
  revert c; decide

theorem format_encode_decodeTxp (c : Code2) : (decodeTxp c).format = .txp ∧ encode (decodeTxp c) = c.toNat := by
  revert c; decide

theorem format_encode_decodeDb (c : Code2) : (decodeDb c).format = .db ∧ encode (decodeDb c) = c.toNat := by
  revert c; decide

theorem format_encode_decodeVol (c : Code2) : (decodeVol c).format = .vol ∧ encode (decodeVol c) = c.toNat := by
  revert c; decide

/-- A sentinel's `DUR`, which its term does not carry, is the 0 that its word holds (30_encoding.md R111). -/
theorem format_encode_decodeSnd (e : Entry) : (decodeSnd e).format = .snd ∧ encode (decodeSnd e) = e.toNat := by
  have hfields := entryOf_fields e
  by_cases hdur : entryDur e = 0#16
  · rw [decodeSnd_of_dur_zero hdur]
    rw [hdur] at hfields
    exact ⟨rfl, congrArg BitVec.toNat hfields⟩
  · rw [decodeSnd_of_dur_ne_zero hdur]
    exact ⟨rfl, congrArg BitVec.toNat hfields⟩

end Sys2Proof

/-! SUPPORT. The serializer's part of a symbol: a phase that holds for a number of cycles, and the row that ends it
(41_light_transmitter.md R174-R176). -/

namespace Sys2Proof.Machine

/-- The state with the serializer in a phase that holds for `n` more cycles after this one. -/
def txAt (s : State) (c : Code2) (n : Nat) : State := { s with tx := { s.tx with phase := c, cnt := n } }

section
variable (s : State) (b : Bool) (c : Code2) (n : Nat)

@[simp] theorem txAt_tx : (txAt s c n).tx = ⟨c, n, s.tx.bit, s.tx.sh⟩ := rfl

/-- The line is high in the high part of a symbol alone (41_light_transmitter.md R174). -/
@[simp] theorem ledDout_txAt : (txAt s c n).outputs.ledDout = (c == 1#2) := rfl

/-- The wire row of a bit value begins the high part of its symbol (log 5). -/
theorem exec_bit : exec (if b then .bit1 else .bit0) s = .next (txAt s 1 (highCycles s.params b - 1)) := by
  cases b <;> rfl

/-- The wire row of the latch begins it (log 5). -/
theorem exec_latch : exec .latch s = .next (txAt s 3 (s.params.latchCyc - 1)) := rfl

end

/-! ## The rows, on a phase with its count -/

section
variable {s : State} {c : Code2}

/-- A busy phase that is not over counts down; TX_LATCH does not read `tx_bit`. -/
theorem exec_txAt_succ (hc : c ≠ 0) (hbit : c = 3 ∨ s.tx.bit.toNat ≤ 47) (n : Nat) :
    exec (decodeTxp c) (txAt s c (n + 1)) = .next (txAt s c n) := by
  obtain ⟨k⟩ := c
  fin_cases k
  · exact absurd rfl hc
  · exact execTxHigh_eq_next.2 ⟨hbit.resolve_left (by decide), rfl⟩
  · exact execTxLow_eq_next.2 ⟨hbit.resolve_left (by decide), rfl⟩
  · exact execTxLatch_eq _

/-- The low part of a symbol follows its high part (R174). -/
theorem exec_txAt_highEnd (hbit : s.tx.bit.toNat ≤ 47) :
    exec (decodeTxp 1) (txAt s 1 0) =
      .next (txAt s 2 (lowCycles s.params (frameBit s.tx.sh s.tx.bit.toNat) - 1)) :=
  execTxHigh_eq_next.2 ⟨hbit, rfl⟩

/-- The latch gives way to idle (R176). -/
theorem exec_txAt_latchEnd : exec (decodeTxp 3) (txAt s 3 0) = .next (txAt s 0 0) := execTxLatch_eq _

/-! ## Runs of the rows -/

theorem serializerRun_succ (n : Nat) (s : State) :
    serializerRun (n + 1) s = andThen (exec (decodeTxp s.tx.phase) s) (serializerRun n) := rfl

/-- A run of `m + n` cycles is one of `m` cycles and then one of `n`. -/
theorem serializerRun_add (m n : Nat) (s : State) :
    serializerRun (m + n) s = andThen (serializerRun m s) (serializerRun n) := by
  induction m generalizing s with
  | zero => rw [Nat.zero_add]; rfl
  | succ m ih =>
    rw [Nat.succ_add, serializerRun_succ, serializerRun_succ]
    cases exec (decodeTxp s.tx.phase) s with
    | next t => exact ih t
    | fault f => rfl
    | refused q => rfl

/-- A busy phase counts down cycle by cycle and writes nothing else. -/
theorem serializerRun_count (hc : c ≠ 0) (hbit : c = 3 ∨ s.tx.bit.toNat ≤ 47) (n k : Nat) :
    serializerRun n (txAt s c (k + n)) = .next (txAt s c k) := by
  induction n with
  | zero => rfl
  | succ n ih => rw [serializerRun_succ, txAt_tx, ← Nat.add_assoc, exec_txAt_succ hc hbit, andThen_next, ih]

/-- A phase begun with the count `width - 1` holds for `width` cycles. -/
theorem serializerRun_within (hc : c ≠ 0) (hbit : c = 3 ∨ s.tx.bit.toNat ≤ 47) {n width : Nat} (hn : n < width) :
    serializerRun n (txAt s c (width - 1)) = .next (txAt s c (width - 1 - n)) := by
  have hcnt : width - 1 = width - 1 - n + n := by omega
  conv_lhs => rw [hcnt]
  exact serializerRun_count hc hbit n _

/-- After its `width` cycles a phase is followed by what its row at count 0 leads to. -/
theorem serializerRun_whole (hc : c ≠ 0) (hbit : c = 3 ∨ s.tx.bit.toNat ≤ 47) {width : Nat} (hpos : 1 ≤ width)
    {t : State} (hend : exec (decodeTxp c) (txAt s c 0) = .next t) :
    serializerRun width (txAt s c (width - 1)) = .next t := by
  obtain ⟨n, rfl⟩ := Nat.exists_eq_add_of_le' hpos
  have hlast : serializerRun n (txAt s c n) = .next (txAt s c 0) := by
    simpa using serializerRun_count hc hbit n 0
  rw [Nat.add_sub_cancel, serializerRun_add, hlast, andThen_next, serializerRun_succ, txAt_tx, hend]
  rfl

end

/-! ## The parts of a symbol take at least one cycle (00_scope.md R7) -/

theorem highCycles_pos {p : Params} (h : p.legal = true) (b : Bool) : 1 ≤ highCycles p b := by
  simp only [Params.legal, Params.clockLegal, Bool.and_eq_true, decide_eq_true_eq] at h
  cases b
  · show 1 ≤ p.t0h
    omega
  · show 1 ≤ p.t1h
    omega

theorem lowCycles_pos {p : Params} (h : p.legal = true) (b : Bool) : 1 ≤ lowCycles p b := by
  simp only [Params.legal, Params.clockLegal, Bool.and_eq_true, decide_eq_true_eq] at h
  cases b
  · show 1 ≤ p.t0l
    omega
  · show 1 ≤ p.t1l
    omega

theorem latchCyc_pos {p : Params} (h : p.legal = true) : 1 ≤ p.latchCyc := by
  simp only [Params.legal, Params.clockLegal, Bool.and_eq_true, decide_eq_true_eq] at h
  have hfloor : 1 ≤ latchFloor p.fClk := by unfold latchFloor; omega
  omega

/-! ## The waveforms (30_encoding.md R115) -/

/-- A symbol of the frame's current bit: its high cycles, then its low cycles. -/
theorem serializerRun_symbol {s : State} (hlegal : s.params.legal = true) (hbit : s.tx.bit.toNat ≤ 47) {b : Bool}
    (hb : frameBit s.tx.sh s.tx.bit.toNat = b) {n : Nat} (hn : n < highCycles s.params b + lowCycles s.params b) :
    ∃ t, serializerRun n (txAt s 1 (highCycles s.params b - 1)) = .next t ∧
      t.outputs.ledDout = decide (n < highCycles s.params b) := by
  by_cases hhigh : n < highCycles s.params b
  · exact ⟨_, serializerRun_within (by decide) (.inr hbit) hhigh, by simp [hhigh]⟩
  · obtain ⟨m, rfl⟩ := Nat.exists_eq_add_of_le (Nat.not_lt.1 hhigh)
    have hwhole := serializerRun_whole (by decide) (.inr hbit) (highCycles_pos hlegal b) (exec_txAt_highEnd hbit)
    have hlow := serializerRun_within (s := s) (c := 2) (by decide) (.inr hbit) (Nat.lt_of_add_lt_add_left hn)
    rw [serializerRun_add, hwhole, andThen_next, hb, hlow]
    exact ⟨_, rfl, by simp⟩

end Sys2Proof.Machine

/-! SUPPORT. The record check of a ROM: the entries of a program before its first sentinel (44_sound_sequencer.md R264). -/

namespace Sys2Proof

/-- Every entry of a list up to an index is a step, not a sentinel. -/
def StepsUpTo (es : List Entry) (k : Nat) : Prop :=
  ∀ (j : Nat) (e : Entry), j ≤ k → es[j]? = some e → entryDur e ≠ 0

theorem stepsUpTo_cons_zero {e₀ : Entry} {es : List Entry} : StepsUpTo (e₀ :: es) 0 ↔ entryDur e₀ ≠ 0 := by
  refine ⟨fun h => h 0 e₀ (Nat.le_refl 0) rfl, fun h j e hj he => ?_⟩
  obtain rfl := Nat.le_zero.1 hj
  cases he
  exact h

theorem stepsUpTo_cons_succ {e₀ : Entry} {es : List Entry} {k : Nat} :
    StepsUpTo (e₀ :: es) (k + 1) ↔ entryDur e₀ ≠ 0 ∧ StepsUpTo es k := by
  constructor
  · exact fun h => ⟨h 0 e₀ (Nat.zero_le _) rfl, fun j e hj he => h (j + 1) e (Nat.succ_le_succ hj) he⟩
  · rintro ⟨h0, hs⟩ (_ | j) e hj he
    · cases he
      exact h0
    · exact hs j e (Nat.le_of_succ_le_succ hj) he

/-- The check of a list of entries: each entry before the first sentinel has neither the reserved volume nor a reserved bit
(30_encoding.md R113). -/
theorem entriesLegal_iff (es : List Entry) : entriesLegal es = true ↔
    ∀ (k : Nat) (e : Entry), es[k]? = some e → StepsUpTo es k → entryVol e ≠ 3 ∧ entryReserved e = 0 := by
  induction es with
  | nil => simp [entriesLegal]
  | cons e₀ es ih =>
    by_cases hdur : entryDur e₀ = 0
    · refine iff_of_true (by simp [entriesLegal, isSentinel_iff.2 hdur]) fun k e he hs => ?_
      exact absurd hdur (hs 0 e₀ (Nat.zero_le _) rfl)
    · have hstep : isSentinel e₀ = false := Bool.eq_false_iff.2 (mt isSentinel_iff.1 hdur)
      simp only [entriesLegal, hstep, Bool.false_or, Bool.and_eq_true, bne_iff_ne, beq_iff_eq, ih]
      constructor
      · rintro ⟨h0, hs⟩ (_ | k) e he hk
        · cases he
          exact h0
        · exact hs k e he (stepsUpTo_cons_succ.1 hk).2
      · intro h
        exact ⟨h 0 e₀ rfl (stepsUpTo_cons_zero.2 hdur),
          fun k e he hk => h (k + 1) e he (stepsUpTo_cons_succ.2 ⟨hdur, hk⟩)⟩

/-- The ROM check in terms of the ROM's own indices (44_sound_sequencer.md R264). -/
theorem romLegal_iff (p : Params) : p.romLegal = true ↔
    ∀ (b k : Nat) (e : Entry), b ∈ p.programBase → b ≤ k → p.sndRom[k]? = some e →
      (∀ (j : Nat) (e' : Entry), b ≤ j → j ≤ k → p.sndRom[j]? = some e' → entryDur e' ≠ 0) →
      entryVol e ≠ 3 ∧ entryReserved e = 0 := by
  simp only [Params.romLegal, List.all_eq_true, entriesLegal_iff, StepsUpTo, List.getElem?_drop]
  constructor
  · intro h b k e hb hbk he hs
    obtain ⟨k, rfl⟩ := Nat.exists_eq_add_of_le hbk
    exact h b hb k e he fun j e' hj => hs (b + j) e' (Nat.le_add_right b j) (Nat.add_le_add_left hj b)
  · intro h b hb k e he hs
    refine h b (b + k) e hb (Nat.le_add_right b k) he fun j e' hbj hjk => ?_
    obtain ⟨j, rfl⟩ := Nat.exists_eq_add_of_le hbj
    exact hs j e' (Nat.le_of_add_le_add_left hjk)

end Sys2Proof

/-! SUPPORT. The obligations of 30_encoding.md. -/

namespace Sys2Proof.Machine

/-- Settles O1, row by row: the rows of a code register are the codes of their tables, and the rows with operands are put
together from the fields that the decoder takes apart. -/
theorem decodeOfEncodeIsTheInstruction : Obligations.DecodeOfEncodeIsTheInstruction := by
  intro i hwf
  cases i with
  | reset rest => rw [encode_reset, Instr.format, decode_input, decodeIn_cons_true]
  | tick ack data => exact (decode_input _).trans (congrArg _ (decodeIn_inputVector true ack data))
  | senseAck data => exact (decode_input _).trans (congrArg _ (decodeIn_inputVector false true data))
  | nop data => exact (decode_input _).trans (congrArg _ (decodeIn_inputVector false false data))
  | phIdle => exact decode_ph 0
  | phSndStep => exact decode_ph 1
  | phRender => exact decode_ph 2
  | phTxStart => exact decode_ph 3
  | phTxWait => exact decode_ph 4
  | phFrameInc => exact decode_ph 5
  | phSenseWait => exact decode_ph 6
  | phDebounce => exact decode_ph 7
  | phCalWait => exact decode_ph 8
  | phCalGap => exact decode_ph 9
  | phCalDone => exact decode_ph 10
  | phReserved11 => exact decode_ph 11
  | phReserved12 => exact decode_ph 12
  | phReserved13 => exact decode_ph 13
  | phReserved14 => exact decode_ph 14
  | phReserved15 => exact decode_ph 15
  | txIdle => exact decode_txp 0
  | txHigh => exact decode_txp 1
  | txLow => exact decode_txp 2
  | txLatch => exact decode_txp 3
  | dbIdle => exact decode_db 0
  | dbTouching => exact decode_db 1
  | dbHoldoff => exact decode_db 2
  | dbReserved3 => exact decode_db 3
  | volOff => exact decode_vol 0
  | volSoft => exact decode_vol 1
  | volLoud => exact decode_vol 2
  | volReserved3 => exact decode_vol 3
  | sentinel freq glide vol reserved =>
    exact (decode_snd _).trans (congrArg _ (decodeSnd_entryOf_zero freq glide vol reserved))
  | stepEntry freq dur glide vol reserved =>
    have hdur : dur ≠ 0#16 := by
      rintro rfl
      cases hwf
    exact (decode_snd _).trans (congrArg _ (decodeSnd_entryOf freq glide vol reserved hdur))
  | bit0 => exact decode_sym_eq_ok.2 (.inl ⟨rfl, rfl⟩)
  | bit1 => exact decode_sym_eq_ok.2 (.inr ⟨rfl, rfl⟩)
  | latch => exact decode_symLatch_eq_ok.2 ⟨rfl, rfl⟩

/-- Settles O2: a word that decodes is a code of its format's width, and in each format the encoder gives the code back. -/
theorem encodeOfDecodeIsTheWord : Obligations.EncodeOfDecodeIsTheWord := by
  intro f w i h
  cases f with
  | input =>
    obtain ⟨v, rfl⟩ := exists_code_of_decode h
    cases (decode_input v).symm.trans h
    exact format_encode_decodeIn v
  | ph =>
    obtain ⟨c, rfl⟩ := exists_code_of_decode h
    cases (decode_ph c).symm.trans h
    exact format_encode_decodePh c
  | txp =>
    obtain ⟨c, rfl⟩ := exists_code_of_decode h
    cases (decode_txp c).symm.trans h
    exact format_encode_decodeTxp c
  | db =>
    obtain ⟨c, rfl⟩ := exists_code_of_decode h
    cases (decode_db c).symm.trans h
    exact format_encode_decodeDb c
  | vol =>
    obtain ⟨c, rfl⟩ := exists_code_of_decode h
    cases (decode_vol c).symm.trans h
    exact format_encode_decodeVol c
  | snd =>
    obtain ⟨e, rfl⟩ := exists_code_of_decode h
    cases (decode_snd e).symm.trans h
    exact format_encode_decodeSnd e
  | sym => obtain ⟨rfl, rfl⟩ | ⟨rfl, rfl⟩ := decode_sym_eq_ok.1 h <;> exact ⟨rfl, rfl⟩
  | symLatch =>
    obtain ⟨rfl, rfl⟩ := decode_symLatch_eq_ok.1 h
    exact ⟨rfl, rfl⟩

/-- Settles O3: the decoder's tests are the vector's bits 18, 17 and 16 in this order. -/
theorem inputEventsByPriority : Obligations.InputEventsByPriority := by
  intro v
  rw [decodeIn, inData_eq_ofNat]
  rfl

/-- Settles O4: the fields are the entry's quotients by powers of two, and the mask is that of `DUR`. -/
theorem soundEntriesByMask : Obligations.SoundEntriesByMask := by
  refine ⟨fun e => ?_, fun _ _ _ _ _ => rfl⟩
  simp only [← entryFreq_eq_ofNat, ← entryDur_eq_ofNat, ← entryGlide_eq_ofNat, ← entryVol_eq_ofNat,
    ← entryReserved_eq_ofNat, ← entryDur_eq_zero_iff_mask]
  split
  next hdur => exact decodeSnd_of_dur_zero hdur
  next hdur => exact decodeSnd_of_dur_ne_zero hdur

/-- A field put above the bits of a number is added to it. -/
theorem or_shiftLeft_eq_add {a i : Nat} (b : Nat) (h : a < 2 ^ i) : a ||| b <<< i = a + 2 ^ i * b := by
  rw [Nat.or_comm, ← Nat.shiftLeft_add_eq_or_of_lt h, Nat.shiftLeft_eq, Nat.add_comm, Nat.mul_comm]

/-- The assembler puts a legal step's numbers in the entry's fields, the glide modulo 2^16 (30_encoding.md R116). -/
theorem assembleStep_eq_entryOf {x : SourceStep} (hfreq : x.freq ≤ 65535) (hdur : x.dur ≤ 65535) :
    assembleStep x =
      entryOf (BitVec.ofNat 16 x.freq) (BitVec.ofNat 16 x.dur) (BitVec.ofInt 16 x.glide) x.vol 0#14 := by
  have hvol := x.vol.isLt
  apply BitVec.eq_of_toNat_eq
  rw [entryOf_toNat, assembleStep, or_shiftLeft_eq_add (i := 16), or_shiftLeft_eq_add (i := 32),
    or_shiftLeft_eq_add (i := 48)]
  · simp only [BitVec.toNat_ofNat, BitVec.toNat_ofInt]
    omega
  all_goals omega

theorem sourceStepLegal_iff {x : SourceStep} : sourceStepLegal x = true ↔
    x.freq ≤ 65535 ∧ (1 ≤ x.dur ∧ x.dur ≤ 65535) ∧ x.vol ≠ 3#2 ∧ -32768 ≤ x.glide ∧ x.glide ≤ 32767 := by
  simp [sourceStepLegal, inRange, and_assoc]

/-- Settles O6: the assembler puts the numbers in the entry's fields, and a glide in R116's range is the signed reading of
its 16 bits. -/
theorem assembledStepDecodes : Obligations.AssembledStepDecodes := by
  intro x hx
  obtain ⟨hfreq, ⟨hpos, hdur⟩, hvol, hlo, hhi⟩ := sourceStepLegal_iff.1 hx
  have hne : BitVec.ofNat 16 x.dur ≠ 0#16 := by
    rw [Ne, ← BitVec.toNat_inj, BitVec.toNat_ofNat, BitVec.toNat_ofNat]
    omega
  have hdecode := decodeSnd_entryOf (BitVec.ofNat 16 x.freq) (BitVec.ofInt 16 x.glide) x.vol 0#14 hne
  rw [← assembleStep_eq_entryOf hfreq hdur] at hdecode
  refine ⟨BitVec.ofInt 16 x.glide, ?_, hdecode, ?_⟩
  · rw [BitVec.toInt_ofInt]
    exact Int.bmod_eq_of_le (by omega) (by omega)
  · rw [hdecode]
    simp only [Instr.WellFormed, Instr.illFormed, hne, hvol, ↓reduceIte]

/-- Settles O5: the decoder is evaluated on each written word. -/
theorem writtenWordsDecode : Obligations.WrittenWordsDecode := by
  unfold Obligations.WrittenWordsDecode
  decide

/-- A cycle that finds a reserved phase code stops, before any other check of the state (30_encoding.md R105, log 9). -/
theorem runCycle_reservedPhase (v : InVec) {s : State} (hlegal : s.params.legal = true) (hphase : 11 ≤ s.phase.toNat) :
    runCycle v s = .fault .reservedPhase := by
  rw [runCycle, admitted, if_pos hlegal, if_pos hphase]

/-- Settles O11: the check before a cycle finds the code, and R45, which every step leaves, allows none. -/
theorem reservedPhasesAreModelFaults : Obligations.ReservedPhasesAreModelFaults := by
  refine ⟨fun s hlegal hrst hphase => ?_, fun s => ⟨rfl, rfl, rfl, rfl, rfl⟩, fun s t h => ?_⟩
  · rcases step_cases s with ⟨hrst', -⟩ | ⟨-, hs⟩
    · rw [hrst] at hrst'
      cases hrst'
    · rw [hs, runCycle_reservedPhase _ hlegal hphase, andThen_fault]
  · exact (invariant_iff.1 (step_invariant h)).phase_le

/-- A step with the reserved volume that would be entered is refused (30_encoding.md R113, log 18). -/
theorem execStepEntry_reservedVolume {s : State} (f g : Half) {d : Half} (r : BitVec 14) (hd : d ≠ 0#16)
    (hsteps : s.snd.steps.toNat ≠ s.params.sndMaxSteps) :
    execStepEntry f d g 3 r s = .refused .reservedVolume := by
  rw [execStepEntry, if_neg hd, if_neg hsteps]
  rfl

/-- Settles O13: the volume of an entered step is applied by its row, and the ROM check goes along each program up to its
first sentinel. -/
theorem reservedVolumeIsRefused : Obligations.ReservedVolumeIsRefused := by
  refine ⟨fun s => rfl, fun s f d g r hd hsteps => execStepEntry_reservedVolume f g r hd hsteps, romLegal_iff,
    fun p hrom => ?_⟩
  simp [Params.legal, Params.soundLegal, hrom]

/-- Settles O27: each part of a symbol holds for its width, and the row at count 0 leads to the next part. -/
theorem symbolsHaveTheirWaveform : Obligations.SymbolsHaveTheirWaveform := by
  refine ⟨fun s b hlegal hbit hb => ⟨_, exec_bit s b, fun n hn => ?_⟩,
    fun s hlegal => ⟨_, exec_latch s, fun n hn => ?_, ?_⟩⟩
  · have hsymbol := serializerRun_symbol (n := n) hlegal hbit hb
    cases b <;> exact hsymbol hn
  · exact ⟨_, serializerRun_within (by decide) (.inl rfl) hn, rfl, rfl⟩
  · exact ⟨_, serializerRun_whole (by decide) (.inl rfl) (latchCyc_pos hlegal) exec_txAt_latchEnd, rfl⟩

/-- Settles O26: the begin of a symbol and of the latch, in their fields. -/
theorem wireRowsBeginTheirSymbol : Obligations.WireRowsBeginTheirSymbol :=
  fun s => ⟨exec_bit s false, exec_bit s true, exec_latch s⟩

/-- Settles O31: each row is `driveVolume` of its code. -/
theorem volumeRowsDriveTheirCode : Obligations.VolumeRowsDriveTheirCode :=
  fun _ => ⟨rfl, rfl, rfl⟩

end Sys2Proof.Machine

/-! SUPPORT. The byte operations of the converter in exact arithmetic: SCALE8, LERP and DESAT
(40_color_model.md R141, R143, R147). -/

namespace Sys2Proof.Machine

/-! ## SCALE8 -/

/-- No product of SCALE8 is narrowed: it lies below `2^16` (R141). -/
theorem scale8_toNat (x s : Byte) : (scale8 x s).toNat = x.toNat * (1 + s.toNat) / 256 := by
  have hprod : x.toNat * (1 + s.toNat) < 256 * 256 := Nat.mul_lt_mul_of_lt_of_le x.isLt (by omega) (by decide)
  rw [scale8, BitVec.toNat_ofNat, Nat.shiftRight_eq_div_pow]
  exact Nat.mod_eq_of_lt (Nat.div_lt_of_lt_mul hprod)

section
variable (x s : Byte)

@[simp] theorem scale8_full : scale8 x 255#8 = x :=
  BitVec.eq_of_toNat_eq ((scale8_toNat x 255#8).trans (Nat.mul_div_cancel x.toNat (by decide)))

@[simp] theorem scale8_by_zero : scale8 x 0#8 = 0#8 :=
  BitVec.eq_of_toNat_eq ((scale8_toNat x 0#8).trans (Nat.div_eq_of_lt ((Nat.mul_one _).trans_lt x.isLt)))

@[simp] theorem scale8_of_zero : scale8 0#8 s = 0#8 :=
  BitVec.eq_of_toNat_eq (by simp [scale8_toNat])

/-- `255 (1 + s)` is `256 s` and a rest below 256 (R141). -/
@[simp] theorem scale8_of_full : scale8 255#8 s = s :=
  BitVec.eq_of_toNat_eq (by rw [scale8_toNat, show (255#8).toNat = 255 from rfl]; omega)

end

/-! ## LERP -/

/-- A part `t` of 256 of a distance is no more than the distance, and less where there is one. -/
theorem mul_byte_div_le (d : Nat) (t : Byte) : d * t.toNat / 256 ≤ d ∧ (0 < d → d * t.toNat / 256 < d) := by
  have hlt (hd : 0 < d) : d * t.toNat / 256 < d :=
    Nat.div_lt_of_lt_mul (by rw [Nat.mul_comm 256]; exact Nat.mul_lt_mul_of_pos_left t.isLt hd)
  refine ⟨?_, hlt⟩
  rcases Nat.eq_zero_or_pos d with rfl | hd
  · simp
  · exact (hlt hd).le

section
variable {a b : Byte}

/-- Upward, the moved value is at most `b`: nothing is narrowed. -/
theorem lerp_toNat_of_le (h : a.toNat ≤ b.toNat) (t : Byte) :
    (lerp a b t).toNat = a.toNat + (b.toNat - a.toNat) * t.toNat / 256 := by
  have hpart := (mul_byte_div_le (b.toNat - a.toNat) t).1
  rw [lerp, if_pos h, BitVec.toNat_ofNat, Nat.shiftRight_eq_div_pow]
  exact Nat.mod_eq_of_lt (by omega)

theorem lerp_toNat_of_lt (h : b.toNat < a.toNat) (t : Byte) :
    (lerp a b t).toNat = a.toNat - (a.toNat - b.toNat) * t.toNat / 256 := by
  rw [lerp, if_neg (by omega), BitVec.toNat_ofNat, Nat.shiftRight_eq_div_pow]
  exact Nat.mod_eq_of_lt (by omega)

/-- LERP moves from `a` toward `b` by less than their distance (R143). -/
theorem lerp_between (a b t : Byte) :
    min a.toNat b.toNat ≤ (lerp a b t).toNat ∧ (lerp a b t).toNat ≤ max a.toNat b.toNat ∧
      (a ≠ b → lerp a b t ≠ b) := by
  rw [ne_eq, ne_eq, BitVec.toNat_eq, BitVec.toNat_eq]
  rcases Nat.lt_or_ge b.toNat a.toNat with h | h
  · have hpart := mul_byte_div_le (a.toNat - b.toNat) t
    rw [lerp_toNat_of_lt h]
    omega
  · have hpart := mul_byte_div_le (b.toNat - a.toNat) t
    rw [lerp_toNat_of_le h]
    omega

/-- The second endpoint is reached only where the channel is held. -/
theorem eq_of_lerp_eq_right {t : Byte} (h : lerp a b t = b) : a = b :=
  not_imp_not.1 (lerp_between a b t).2.2 h

variable (a b)

@[simp] theorem lerp_at_zero : lerp a b 0#8 = a := by
  apply BitVec.eq_of_toNat_eq
  rcases Nat.lt_or_ge b.toNat a.toNat with h | h
  · simp [lerp_toNat_of_lt h]
  · simp [lerp_toNat_of_le h]

@[simp] theorem lerp_self (t : Byte) : lerp a a t = a :=
  BitVec.eq_of_toNat_eq (by simp [lerp_toNat_of_le (Nat.le_refl a.toNat)])

end

/-! ## DESAT and VALUE -/

section
variable (c s v : Byte)

theorem desatFloor_toNat : (desatFloor s).toNat = (255 - s.toNat) * (255 - s.toNat) / 255 := by
  have hsq : (255 - s.toNat) * (255 - s.toNat) ≤ 255 * 255 := Nat.mul_le_mul (by omega) (by omega)
  rw [desatFloor, BitVec.toNat_ofNat]
  exact Nat.mod_eq_of_lt (by omega)

/-- The lifted channel does not pass 255: the floor leaves room for a channel scaled by the rest (R147). -/
theorem desat_toNat :
    (desat c s).toNat = (desatFloor s).toNat + c.toNat * (1 + (255 - (desatFloor s).toNat)) / 256 := by
  have hrest : (BitVec.ofNat 8 (255 - (desatFloor s).toNat)).toNat = 255 - (desatFloor s).toNat :=
    Nat.mod_eq_of_lt (by omega)
  have hscaled : c.toNat * (1 + (255 - (desatFloor s).toNat)) ≤ 255 * (1 + (255 - (desatFloor s).toNat)) :=
    Nat.mul_le_mul_right _ (by omega)
  rw [desat, BitVec.toNat_ofNat, scale8_toNat, hrest]
  exact Nat.mod_eq_of_lt (by omega)

/-- One channel of HSV_TO_RGB, in exact arithmetic (R150). -/
theorem shade_toNat :
    (shade c s v).toNat =
      ((desatFloor s).toNat + c.toNat * (1 + (255 - (desatFloor s).toNat)) / 256) * (1 + v.toNat) / 256 := by
  rw [shade, scale8_toNat, desat_toNat]

/-- At full saturation the floor is 0 and nothing is lifted (R147). -/
@[simp] theorem desat_full : desat c 255#8 = c := by
  have hfloor : desatFloor 255#8 = 0#8 := rfl
  apply BitVec.eq_of_toNat_eq
  simp [desat_toNat, hfloor]

/-- At saturation 0 the floor is 255: pure white (R148). -/
@[simp] theorem desat_zero : desat c 0#8 = 255#8 := by
  have hfloor : (desatFloor 0#8).toNat = 255 := rfl
  apply BitVec.eq_of_toNat_eq
  rw [desat_toNat, hfloor, show (255#8).toNat = 255 from rfl]
  omega

@[simp] theorem shade_full : shade c 255#8 255#8 = c := by rw [shade, desat_full, scale8_full]

@[simp] theorem shade_unsaturated : shade c 0#8 v = v := by rw [shade, desat_zero, scale8_of_full]

@[simp] theorem shade_dark : shade c s 0#8 = 0#8 := scale8_by_zero _

end

end Sys2Proof.Machine

/-! SUPPORT. The hue table: its endpoints, the sector of a hue, and the ramp between two endpoints, channel by channel
(40_color_model.md R142, R144, R145). -/

namespace Sys2Proof.Machine

/-! ## Colours by their channels -/

/-- A colour is given by its three channels. -/
theorem rgb_eq_of_channels {x y : Rgb} (h : ∀ ch, channelOf ch x = channelOf ch y) : x = y :=
  (Rgb.mk.injEq ..).mpr ⟨h .red, h .green, h .blue⟩

theorem sharesFull_iff {x y : Rgb} :
    sharesFull x y = true ↔ ∃ ch, channelOf ch x = 255 ∧ channelOf ch y = 255 := by
  have hchannels : (∃ ch, channelOf ch x = 255 ∧ channelOf ch y = 255) ↔
      (x.r = 255 ∧ y.r = 255 ∨ x.g = 255 ∧ y.g = 255) ∨ x.b = 255 ∧ y.b = 255 := by
    constructor
    · rintro ⟨ch, h⟩
      cases ch with
      | red => exact .inl (.inl h)
      | green => exact .inl (.inr h)
      | blue => exact .inr h
    · rintro ((h | h) | h)
      · exact ⟨.red, h⟩
      · exact ⟨.green, h⟩
      · exact ⟨.blue, h⟩
  rw [hchannels]
  simp [sharesFull]

/-! ## The sector of a hue -/

section
variable (p : Params) (h : Byte)

theorem hueSector_eq : hueSector p h = h.toNat * p.hueSectors / 256 := Nat.shiftRight_eq_div_pow _ 8

theorem huePosition_eq : huePosition p h = BitVec.ofNat 8 (h.toNat * p.hueSectors % 256) :=
  congrArg _ (Nat.and_two_pow_sub_one_eq_mod _ 8)

theorem channelOf_ramp (ch : Channel) :
    channelOf ch (ramp p h) = lerp (channelOf ch (hueEndpoint p (hueSector p h)))
      (channelOf ch (hueEndpoint p ((hueSector p h + 1) % p.hueSectors))) (huePosition p h) := by
  cases ch <;> rfl

theorem channelOf_hsvToRgb (ch : Channel) (x : Hsv) :
    channelOf ch (hsvToRgb p x) = shade (channelOf ch (ramp p x.h)) x.s x.v := by
  cases ch <;> rfl

/-- Full saturation and value show the ramp itself (R147, R149). -/
theorem hsvToRgb_full : hsvToRgb p ⟨h, 255, 255⟩ = ramp p h :=
  rgb_eq_of_channels fun ch => (channelOf_hsvToRgb p ch _).trans (shade_full _)

/-- At a sector's first hue the ramp is the sector's endpoint (R152). -/
theorem ramp_of_position_zero (hpos : huePosition p h = 0#8) :
    ramp p h = hueEndpoint p (hueSector p h) :=
  rgb_eq_of_channels fun ch => by rw [channelOf_ramp, hpos, lerp_at_zero]

end

/-! ## A legal table -/

section
variable {p : Params}

theorem hueLegal_iff : p.hueLegal = true ↔
    (p.hueSectors = 6 ∨ p.hueSectors = 8) ∧ p.hueTable.length = p.hueSectors ∧
      (∀ ab ∈ sectorPairs p.hueTable, sharesFull ab.1 ab.2 = true) ∧ ∀ a ∈ p.hueTable, notWhite a = true := by
  simp only [Params.hueLegal, Bool.and_eq_true, Bool.or_eq_true, beq_iff_eq, List.all_eq_true, and_assoc]

theorem hueSectors_pos (hp : p.hueLegal = true) : 0 < p.hueSectors := by
  obtain ⟨hsectors, -⟩ := hueLegal_iff.1 hp
  omega

/-- A legal table holds the endpoint of every sector (R144). -/
theorem hueTable_getElem? (hp : p.hueLegal = true) {k : Nat} (hk : k < p.hueSectors) :
    p.hueTable[k]? = some (hueEndpoint p k) := by
  obtain ⟨-, hlen, -⟩ := hueLegal_iff.1 hp
  have hk' : k < p.hueTable.length := hlen ▸ hk
  rw [hueEndpoint, List.getD_eq_getElem _ _ hk', List.getElem?_eq_getElem hk']

theorem hueSector_lt (hp : p.hueLegal = true) (h : Byte) : hueSector p h < p.hueSectors := by
  rw [hueSector_eq]
  exact Nat.div_lt_of_lt_mul (Nat.mul_lt_mul_of_pos_right h.isLt (hueSectors_pos hp))

/-- The sector after a sector, with the wrap from the last to the first (R142). -/
theorem nextSector_lt (hp : p.hueLegal = true) (k : Nat) : (k + 1) % p.hueSectors < p.hueSectors :=
  Nat.mod_lt _ (hueSectors_pos hp)

/-- The second endpoints are the table turned by one. -/
theorem sectorPairs_eq_zip_rotate {t : List Rgb} (ht : 1 ≤ t.length) : sectorPairs t = t.zip (t.rotate 1) := by
  rw [sectorPairs, List.rotate_eq_drop_append_take ht]

theorem mem_sectorPairs {t : List Rgb} {k : Nat} {a b : Rgb} (ha : t[k]? = some a)
    (hb : t[(k + 1) % t.length]? = some b) : (a, b) ∈ sectorPairs t := by
  obtain ⟨hk, -⟩ := List.getElem?_eq_some_iff.1 ha
  rw [sectorPairs_eq_zip_rotate (by omega), List.mem_iff_getElem?]
  exact ⟨k, List.getElem?_zip_eq_some.2 ⟨ha, by rw [List.getElem?_rotate hk, hb]⟩⟩

/-- Some channel is held at 255 across each sector of a legal table (R145). -/
theorem exists_full_channel (hp : p.hueLegal = true) {k : Nat} (hk : k < p.hueSectors) :
    ∃ ch, channelOf ch (hueEndpoint p k) = 255 ∧ channelOf ch (hueEndpoint p ((k + 1) % p.hueSectors)) = 255 := by
  obtain ⟨-, hlen, hshare, -⟩ := hueLegal_iff.1 hp
  refine sharesFull_iff.1 (hshare (_, _) (mem_sectorPairs (hueTable_getElem? hp hk) ?_))
  rw [hlen]
  exact hueTable_getElem? hp (nextSector_lt hp k)

/-- The shared channel of a sector's endpoints keeps the ramp at 255 (R151). -/
theorem exists_channelOf_ramp_full (hp : p.hueLegal = true) (h : Byte) : ∃ ch, channelOf ch (ramp p h) = 255 := by
  obtain ⟨ch, ha, hb⟩ := exists_full_channel hp (hueSector_lt hp h)
  exact ⟨ch, by rw [channelOf_ramp, ha, hb, lerp_self]⟩

end

/-- The greatest channel of a colour that has a full one. -/
theorem max_channels_of_full {x : Rgb} {ch : Channel} (h : channelOf ch x = 255) :
    max x.r.toNat (max x.g.toNat x.b.toNat) = 255 := by
  have hfull : (channelOf ch x).toNat = 255 := congrArg BitVec.toNat h
  cases ch <;> (simp only [channelOf] at hfull; omega)

end Sys2Proof.Machine

/-! SUPPORT. The obligations of 40_color_model.md. -/

namespace Sys2Proof.Machine

/-- Settles O57, by the exact product and its corner values. -/
theorem scale8IsExact : Obligations.Scale8IsExact :=
  ⟨scale8_toNat, scale8_full, scale8_by_zero, scale8_of_zero, scale8_of_full⟩

/-- Settles O58: the part of the distance that is moved is less than the distance. -/
theorem lerpStaysBetween : Obligations.LerpStaysBetween := by
  intro a b t
  obtain ⟨hmin, hmax, hne⟩ := lerp_between a b t
  exact ⟨hmin, hmax, lerp_at_zero a b, lerp_self a t, hne, (lerp_toNat_of_le · t), (lerp_toNat_of_lt · t)⟩

/-- Settles O59, channel by channel: the ramp between the table's two endpoints, then the shade of its channel. -/
theorem converterProperties : Obligations.ConverterProperties := by
  intro p hp h s v
  have hsector := hueSector_lt hp h
  have hnext := nextSector_lt hp (hueSector p h)
  refine ⟨⟨hueEndpoint p (hueSector p h), hueEndpoint p ((hueSector p h + 1) % p.hueSectors), ?_, ?_, ?_⟩, ?_, ?_, ?_⟩
  · rw [← hueSector_eq]
    exact hueTable_getElem? hp hsector
  · rw [← hueSector_eq]
    exact hueTable_getElem? hp hnext
  · rintro ch _ _ rfl rfl
    rw [channelOf_hsvToRgb, shade_toNat, desatFloor_toNat, channelOf_ramp, huePosition_eq]
  · obtain ⟨ch, hfull⟩ := exists_channelOf_ramp_full hp h
    rw [hsvToRgb_full]
    exact max_channels_of_full hfull
  · simp [hsvToRgb]
  · simp [hsvToRgb]

/-- Settles O60: LERP is its first endpoint at position 0, and its second one only where the two are equal. -/
theorem hueEndpointsAreTheTable : Obligations.HueEndpointsAreTheTable := by
  refine ⟨fun p h hp => ⟨hsvToRgb_full p h, fun hzero => ?_, fun hreached => ?_⟩, ?_⟩
  · have hpos : huePosition p h = 0#8 := by rw [huePosition_eq, hzero]
    rw [← hueSector_eq, ramp_of_position_zero p h hpos]
    exact hueTable_getElem? hp (hueSector_lt hp h)
  · refine rgb_eq_of_channels fun ch => eq_of_lerp_eq_right (t := huePosition p h) ?_
    rw [← channelOf_ramp, hreached]
  · rw [hsvToRgb_full]
    decide

end Sys2Proof.Machine

/-! SUPPORT. A step built forward from its two rows: what TX_START loads, what the serializer's rows read, and the cycles of a
busy serializer (41_light_transmitter.md R172, R173, R180). -/

namespace Sys2Proof.Machine

/-! ## The load (41_light_transmitter.md R172, R173) -/

/-- Bit `i` of byte `n` of a word, counted from its last byte. -/
theorem getLsbD_append_byte {w : Nat} (x : BitVec w) (b : Byte) (n : Nat) {i : Nat} (hi : i < 8) :
    (x ++ b).getLsbD (8 * n + i) = if n = 0 then b.getLsbD i else x.getLsbD (8 * (n - 1) + i) := by
  rw [BitVec.getLsbD_append]
  cases n with
  | zero => simp [hi]
  | succ n =>
    have hskip : 8 * (n + 1) + i - 8 = 8 * n + i := by omega
    simp [hskip, show ¬ 8 * (n + 1) + i < 8 by omega]

/-- A bit of the frame in time order: byte `k / 8` of the buffer, most significant bit first. -/
theorem frameBit_packFrame (s : State) {k : Nat} (hk : k < 48) :
    frameBit (packFrame s) k = (Memory.read s.buf (k / 8)).getLsbD (7 - k % 8) := by
  have hq : k / 8 < 6 := by omega
  have hi : 7 - k % 8 < 8 := by omega
  have hplace : 47 - k = 8 * (5 - k / 8) + (7 - k % 8) := by omega
  rw [frameBit, hplace, packFrame]
  generalize k / 8 = q at hq
  iterate 5 rw [getLsbD_append_byte _ _ _ hi]
  interval_cases q <;> simp [bufRead]

/-- TX_START on an idle serializer loads the buffer and begins the first symbol (45_tick_dispatcher.md R295). -/
theorem exec_phTxStart {s : State} (hidle : s.tx.phase = 0) :
    exec .phTxStart s = .next { s with
      phase := 4
      tx := ⟨1, highCycles s.params (frameBit (packFrame s) 0) - 1, 0, packFrame s⟩ } :=
  andThen_eq_next.2 ⟨_, txLoad_eq_next.2 ⟨txIsIdle_iff.2 hidle, rfl⟩, rfl⟩

/-- TX_START on a busy serializer stops (log 4). -/
theorem exec_phTxStart_busy {s : State} (hbusy : s.tx.phase ≠ 0) : exec .phTxStart s = .fault .invariant := by
  have hload : txLoad s = .fault .invariant := if_neg (mt txIsIdle_iff.1 hbusy)
  show andThen (txLoad s) _ = _
  rw [hload, andThen_fault]

/-- TX_WAIT holds while the serializer is busy (45_tick_dispatcher.md R296). -/
theorem exec_phTxWait_busy {s : State} (hbusy : s.tx.phase ≠ 0) : exec .phTxWait s = .next s :=
  if_neg (mt txIsIdle_iff.1 hbusy)

/-! ## What the serializer's rows answer and depend on -/

theorem execTxHigh_of_bit_gt {s : State} (hbit : 48 ≤ s.tx.bit.toNat) : execTxHigh s = .fault .invariant :=
  if_neg (Nat.not_le.2 hbit)

theorem execTxLow_of_bit_gt {s : State} (hbit : 48 ≤ s.tx.bit.toNat) : execTxLow s = .fault .invariant :=
  if_neg (Nat.not_le.2 hbit)

/-- A row of the serializer reads the record and `tx_*` alone (41_light_transmitter.md R170). -/
theorem exec_txp_of_same {c : Code2} {s s' t : State} (h : exec (decodeTxp c) s = .next t)
    (hparams : s'.params = s.params) (htx : s'.tx = s.tx) : exec (decodeTxp c) s' = .next { s' with tx := t.tx } := by
  obtain ⟨c⟩ := c
  fin_cases c
  · cases h
    rw [← htx]
    rfl
  · obtain ⟨hbit, rfl⟩ := execTxHigh_eq_next.1 h
    exact execTxHigh_eq_next.2 ⟨by rwa [htx], by rw [hparams, htx]⟩
  · obtain ⟨hbit, rfl⟩ := execTxLow_eq_next.1 h
    exact execTxLow_eq_next.2 ⟨by rwa [htx], by rw [hparams, htx]⟩
  · obtain rfl := Host.Outcome.next.inj ((execTxLatch_eq s).symm.trans h)
    exact (execTxLatch_eq s').trans (by rw [hparams, htx])

/-- So does a run of them. -/
theorem serializerRun_of_same {n : Nat} {s s' t : State} (h : serializerRun n s = .next t)
    (hparams : s'.params = s.params) (htx : s'.tx = s.tx) : serializerRun n s' = .next { s' with tx := t.tx } := by
  induction n generalizing s s' with
  | zero =>
    cases h
    rw [← htx]
    rfl
  | succ n ih =>
    obtain ⟨u, hu, hrun⟩ := andThen_eq_next.1 h
    have hrow := exec_txp_of_same hu hparams htx
    have huparams : u.params = s.params := by rw [(serializerRow_of_exec hu).eq_with_tx]
    rw [serializerRun_succ, htx, hrow, andThen_next]
    exact ih hrun (hparams.trans huparams.symm) rfl

/-- While `tx_bit` is a bit of the frame every row of the serializer answers. -/
theorem exec_txp_answers (c : Code2) {s : State} (hbit : s.tx.bit.toNat ≤ 47) :
    ∃ t, exec (decodeTxp c) s = .next t := by
  obtain ⟨c⟩ := c
  fin_cases c
  · exact ⟨s, rfl⟩
  · exact ⟨_, execTxHigh_eq_next.2 ⟨hbit, rfl⟩⟩
  · exact ⟨_, execTxLow_eq_next.2 ⟨hbit, rfl⟩⟩
  · exact ⟨_, execTxLatch_eq s⟩

/-! ## A step from its two rows -/

/-- A cycle without reset from a state that keeps R45: where both rows answer, the step is what they write, the overrun flag of
a tick that is not accepted, and the consumed vector (10_state.md R30, 45_tick_dispatcher.md R292). -/
theorem step_of_rows {s a b : State} (hlegal : s.params.legal = true) (hinv : s.invariant = true)
    (hrst : inRst (currentIn s) = false)
    (ha : exec (decodePh s.phase) (driveInput s (currentIn s)) = .next a)
    (hb : exec (decodeTxp s.tx.phase) (driveInput s (currentIn s)) = .next b) :
    step s = .next { a with
      inputs := s.inputs.tail
      tx := if s.tx.phase = 0 then a.tx else b.tx
      tickOverrun := a.tickOverrun || (inTick (currentIn s) && busy s) } := by
  have hinputs : a.inputs = currentIn s :: s.inputs.tail := (phaseRow_of_exec ha).inputs
  have hcycle : runCycle (currentIn s) s = .next (popInput (commitCycle (driveInput s (currentIn s)) a b)) := by
    simp [runCycle, bothOps, admitted_of_legal hlegal hinv, dispatcherOp_eq_exec, serializerOp_eq_exec, ha, hb]
  rcases step_cases s with ⟨hrst', -⟩ | ⟨-, hstep⟩
  · rw [hrst] at hrst'
    cases hrst'
  · rw [hstep, hcycle, andThen_next]
    congr 1
    apply state_ext <;> cases inTick (currentIn s) <;> simp [hinputs, txIsIdle_iff]

/-- A cycle of a busy serializer without reset is its row, the flag of a dropped tick and the consumed vector
(41_light_transmitter.md R180). -/
theorem step_of_txBusy {s : State} (hlegal : s.params.legal = true) (hinv : s.invariant = true)
    (hbusy : s.tx.phase ≠ 0) (hrst : inRst (currentIn s) = false) :
    ∃ u, exec (decodeTxp s.tx.phase) s = .next u ∧
      step s = .next { s with
        inputs := s.inputs.tail
        tx := u.tx
        tickOverrun := s.tickOverrun || inTick (currentIn s) } := by
  have hs := invariant_iff.1 hinv
  have hwait : s.phase = 4 := hs.tx_idle hbusy
  obtain ⟨u, hu⟩ := exec_txp_answers s.tx.phase hs.bit_le
  have hrow := exec_txp_of_same (s' := driveInput s (currentIn s)) hu rfl rfl
  have hheld : exec (decodePh s.phase) (driveInput s (currentIn s)) = .next (driveInput s (currentIn s)) := by
    rw [hwait]
    exact exec_phTxWait_busy hbusy
  have hflag : busy s = true := by simp [busy, hwait]
  refine ⟨u, hu, ?_⟩
  rw [step_of_rows hlegal hinv hrst hheld hrow, if_neg hbusy, hflag, Bool.and_true]
  rfl

/-- The state after a TX_START cycle without reset. -/
def txStarted (s : State) : State :=
  { s with
    phase := 4
    inputs := s.inputs.tail
    tx := ⟨1, highCycles s.params (frameBit (packFrame s) 0) - 1, 0, packFrame s⟩
    tickOverrun := s.tickOverrun || inTick (currentIn s) }

/-- A TX_START cycle without reset loads the buffer and begins the first symbol (41_light_transmitter.md R173). -/
theorem step_of_txStart {s : State} (hlegal : s.params.legal = true) (hinv : s.invariant = true)
    (hphase : s.phase = 3) (hrst : inRst (currentIn s) = false) :
    step s = .next (txStarted s) := by
  have hidle : s.tx.phase = 0 := (invariant_iff.1 hinv).tx_phase_eq_zero (by rw [hphase]; decide)
  have hload := exec_phTxStart (s := driveInput s (currentIn s)) hidle
  have hrow : exec (decodeTxp s.tx.phase) (driveInput s (currentIn s)) = .next (driveInput s (currentIn s)) := by
    rw [hidle]
    rfl
  have hflag : busy s = true := by simp [busy, hphase]
  rw [step_of_rows hlegal hinv hrst (by rw [hphase]; exact hload) hrow, if_pos hidle, hflag, Bool.and_true]
  rfl

/-! ## Runs of a busy serializer -/

theorem runSteps_succ (n : Nat) (s : State) : runSteps (n + 1) s = andThen (step s) (runSteps n) := rfl

/-- No reset is listed, so none comes: after the list every vector is 0 (log 1). -/
theorem inRst_currentIn {s : State} (h : ∀ v ∈ s.inputs, inRst v = false) : inRst (currentIn s) = false := by
  unfold currentIn
  cases hin : s.inputs with
  | nil => rfl
  | cons v rest => exact h v (by simp [hin])

/-- As long as the serializer is busy, whole cycles without reset move it as its rows alone do, and change nothing else but the
overrun flag and the vectors still to come. -/
theorem runSteps_of_txBusy {n : Nat} {s u : State} (hlegal : s.params.legal = true) (hinv : s.invariant = true)
    (hinputs : ∀ v ∈ s.inputs, inRst v = false) (hrun : serializerRun n s = .next u)
    (hbusy : ∀ m, m < n → ∀ w, serializerRun m s = .next w → w.tx.phase ≠ 0) :
    ∃ f, runSteps n s = .next { s with inputs := s.inputs.drop n, tx := u.tx, tickOverrun := f } := by
  induction n generalizing s u with
  | zero =>
    cases hrun
    exact ⟨_, rfl⟩
  | succ n ih =>
    have hnow : s.tx.phase ≠ 0 := hbusy 0 n.succ_pos s rfl
    obtain ⟨a, ha, hstep⟩ := step_of_txBusy hlegal hinv hnow (inRst_currentIn hinputs)
    have haparams : a.params = s.params := by rw [(serializerRow_of_exec ha).eq_with_tx]
    have hsucc : ∀ m, serializerRun (m + 1) s = serializerRun m a := fun m => by
      rw [serializerRun_succ, ha, andThen_next]
    rw [hsucc] at hrun
    obtain ⟨f, hf⟩ := ih (s := { s with
        inputs := s.inputs.tail, tx := a.tx, tickOverrun := s.tickOverrun || inTick (currentIn s) })
      hlegal (step_invariant hstep) (fun v hv => hinputs v (List.mem_of_mem_tail hv))
      (serializerRun_of_same hrun haparams.symm rfl)
      fun m hm w hw => hbusy (m + 1) (Nat.succ_lt_succ hm) { a with tx := w.tx }
        ((hsucc m).trans (serializerRun_of_same hw haparams rfl))
    exact ⟨f, by rw [runSteps_succ, hstep, andThen_next, hf, List.drop_tail]⟩

end Sys2Proof.Machine

/-! SUPPORT. One frame on the wire: the serializer's run from the first symbol to the end of the latch
(41_light_transmitter.md R178). -/

namespace Sys2Proof.Machine

/-! ## Where the frame stands -/

section
variable {p : Params} {sh : FrameWord}

theorem symbolStart_succ (p : Params) (sh : FrameWord) (k : Nat) : symbolStart p sh (k + 1) =
    symbolStart p sh k + (highCycles p (frameBit sh k) + lowCycles p (frameBit sh k)) := rfl

theorem symbolStart_mono (p : Params) (sh : FrameWord) : Monotone (symbolStart p sh) :=
  monotone_nat_of_le_succ fun _ => Nat.le_add_right _ _

/-- A cycle before the end of `j` symbols lies in one of them. -/
theorem exists_symbol {j m : Nat} (h : m < symbolStart p sh j) :
    ∃ k, k < j ∧ symbolStart p sh k ≤ m ∧ m < symbolStart p sh (k + 1) := by
  induction j with
  | zero => exact absurd h (Nat.not_lt_zero m)
  | succ j ih =>
    by_cases hlast : symbolStart p sh j ≤ m
    · exact ⟨j, Nat.lt_succ_self j, hlast, h⟩
    · obtain ⟨k, hk, hin⟩ := ih (Nat.not_le.1 hlast)
      exact ⟨k, Nat.lt_succ_of_lt hk, hin⟩

/-- A symbol's high part is over before a later symbol begins. -/
theorem highEnd_le {j k : Nat} (h : j < k) :
    symbolStart p sh j + highCycles p (frameBit sh j) ≤ symbolStart p sh k := by
  have hnext : symbolStart p sh (j + 1) ≤ symbolStart p sh k := symbolStart_mono p sh h
  rw [symbolStart_succ] at hnext
  omega

/-- Cycle `m` of the frame is one of the first `TH` cycles of a symbol (41_light_transmitter.md R178). -/
def InHighPart (p : Params) (sh : FrameWord) (m : Nat) : Prop :=
  ∃ k, k < 48 ∧ symbolStart p sh k ≤ m ∧ m < symbolStart p sh k + highCycles p (frameBit sh k)

/-- In symbol `k` only the high part of that symbol counts: the other symbols are over or have not begun. -/
theorem inHighPart_iff {k m : Nat} (hk : k < 48) (hlo : symbolStart p sh k ≤ m) (hhi : m < symbolStart p sh (k + 1)) :
    InHighPart p sh m ↔ m < symbolStart p sh k + highCycles p (frameBit sh k) := by
  refine ⟨?_, fun h => ⟨k, hk, hlo, h⟩⟩
  rintro ⟨j, -, hjlo, hjhi⟩
  rcases Nat.lt_trichotomy j k with hjk | rfl | hkj
  · have hover := highEnd_le (p := p) (sh := sh) hjk
    omega
  · exact hjhi
  · have hahead : symbolStart p sh (k + 1) ≤ symbolStart p sh j := symbolStart_mono p sh hkj
    omega

/-- After the 48 symbols no cycle is high. -/
theorem not_inHighPart {m : Nat} (h : symbolStart p sh 48 ≤ m) : ¬ InHighPart p sh m := by
  rintro ⟨j, hj, -, hjhi⟩
  have hover := highEnd_le (p := p) (sh := sh) hj
  omega

end

/-! ## The serializer's states along a frame -/

/-- The state with the serializer at bit `k` of its frame. -/
def atBit (s : State) (k : Nat) : State := { s with tx := { s.tx with bit := BitVec.ofNat 6 k } }

/-- The first cycle of symbol `k`. -/
def symbolBegun (s : State) (k : Nat) : State := txAt (atBit s k) 1 (highCycles s.params (frameBit s.tx.sh k) - 1)

/-- The first low cycle of symbol `k`. -/
def lowBegun (s : State) (k : Nat) : State := txAt (atBit s k) 2 (lowCycles s.params (frameBit s.tx.sh k) - 1)

/-- The first cycle of the latch. -/
def latchBegun (s : State) : State := txAt (atBit s 47) 3 (s.params.latchCyc - 1)

section
variable {s : State} {k : Nat}

theorem atBit_bit (hk : k < 48) : (atBit s k).tx.bit.toNat = k := by
  show (BitVec.ofNat 6 k).toNat = k
  rw [BitVec.toNat_ofNat]
  omega

theorem atBit_bit_le (hk : k < 48) : (atBit s k).tx.bit.toNat ≤ 47 := by
  rw [atBit_bit hk]
  omega

/-- The low part of a symbol gives way to the next symbol (41_light_transmitter.md R175). -/
theorem exec_lowEnd (hk : k + 1 < 48) : exec (decodeTxp 2) (txAt (atBit s k) 2 0) = .next (symbolBegun s (k + 1)) := by
  have hbit := atBit_bit (s := s) (Nat.lt_of_succ_lt hk)
  refine execTxLow_eq_next.2 ⟨atBit_bit_le (s := s) (Nat.lt_of_succ_lt hk), ?_⟩
  simp only [txAt_tx, hbit, ↓reduceIte, if_neg (show k ≠ 47 by omega)]
  rfl

/-- The low part of the last symbol gives way to the latch (R175). -/
theorem exec_lastLowEnd : exec (decodeTxp 2) (txAt (atBit s 47) 2 0) = .next (latchBegun s) :=
  execTxLow_eq_next.2 ⟨atBit_bit_le (s := s) (k := 47) (by decide), rfl⟩

variable (hlegal : s.params.legal = true)
include hlegal

/-- From the start of a symbol through its high part. -/
theorem serializerRun_high (hk : k < 48) :
    serializerRun (highCycles s.params (frameBit s.tx.sh k)) (symbolBegun s k) = .next (lowBegun s k) := by
  have hend := exec_txAt_highEnd (atBit_bit_le (s := s) hk)
  rw [atBit_bit hk] at hend
  exact serializerRun_whole (by decide) (.inr (atBit_bit_le hk)) (highCycles_pos hlegal _) hend

/-- From the start of a symbol through its low part, to what its row at count 0 leads to. -/
theorem serializerRun_wholeSymbol (hk : k < 48) {t : State}
    (hend : exec (decodeTxp 2) (txAt (atBit s k) 2 0) = .next t) :
    serializerRun (highCycles s.params (frameBit s.tx.sh k) + lowCycles s.params (frameBit s.tx.sh k)) (symbolBegun s k) =
      .next t := by
  rw [serializerRun_add, serializerRun_high hlegal hk, andThen_next]
  exact serializerRun_whole (by decide) (.inr (atBit_bit_le hk)) (lowCycles_pos hlegal _) hend

/-- `start(k)` is the first cycle of symbol `k` (41_light_transmitter.md R178). -/
theorem serializerRun_symbolStart (hk : k < 48) :
    serializerRun (symbolStart s.params s.tx.sh k) (symbolBegun s 0) = .next (symbolBegun s k) := by
  induction k with
  | zero => rfl
  | succ k ih =>
    rw [symbolStart_succ, serializerRun_add, ih (Nat.lt_of_succ_lt hk), andThen_next]
    exact serializerRun_wholeSymbol hlegal (Nat.lt_of_succ_lt hk) (exec_lowEnd hk)

/-- The latch follows the last symbol (R178). -/
theorem serializerRun_frameEnd :
    serializerRun (symbolStart s.params s.tx.sh 48) (symbolBegun s 0) = .next (latchBegun s) := by
  rw [symbolStart_succ, serializerRun_add, serializerRun_symbolStart hlegal (by decide), andThen_next]
  exact serializerRun_wholeSymbol hlegal (by decide) exec_lastLowEnd

/-- Inside a symbol the serializer is in TX_HIGH for `TH` cycles, then in TX_LOW. -/
theorem serializerRun_inSymbol (hk : k < 48) {m : Nat} (hlo : symbolStart s.params s.tx.sh k ≤ m)
    (hhi : m < symbolStart s.params s.tx.sh (k + 1)) :
    ∃ t, serializerRun m (symbolBegun s 0) = .next t ∧ t.tx.phase =
      if m < symbolStart s.params s.tx.sh k + highCycles s.params (frameBit s.tx.sh k) then 1 else 2 := by
  obtain ⟨i, rfl⟩ := Nat.exists_eq_add_of_le hlo
  rw [symbolStart_succ] at hhi
  simp only [Nat.add_lt_add_iff_left] at hhi ⊢
  rw [serializerRun_add, serializerRun_symbolStart hlegal hk, andThen_next]
  by_cases hhigh : i < highCycles s.params (frameBit s.tx.sh k)
  · rw [if_pos hhigh]
    exact ⟨_, serializerRun_within (by decide) (.inr (atBit_bit_le hk)) hhigh, rfl⟩
  · rw [if_neg hhigh]
    obtain ⟨j, rfl⟩ := Nat.exists_eq_add_of_le (Nat.not_lt.1 hhigh)
    rw [serializerRun_add, serializerRun_high hlegal hk, andThen_next]
    exact ⟨_, serializerRun_within (by decide) (.inr (atBit_bit_le hk)) (Nat.lt_of_add_lt_add_left hhi), rfl⟩

/-- The whole frame: the serializer's phase in every cycle from the first symbol to the end of the latch (R178). -/
theorem serializerRun_frame {m : Nat} (hm : m ≤ frameCycles s.params s.tx.sh) :
    ∃ t, serializerRun m (symbolBegun s 0) = .next t ∧
      (t.tx.phase = 1 ↔ InHighPart s.params s.tx.sh m) ∧
      (t.tx.phase = 3 ↔ symbolStart s.params s.tx.sh 48 ≤ m ∧ m < frameCycles s.params s.tx.sh) ∧
      (t.tx.phase = 0 ↔ m = frameCycles s.params s.tx.sh) := by
  have hlatch : frameCycles s.params s.tx.sh = symbolStart s.params s.tx.sh 48 + s.params.latchCyc := rfl
  by_cases hsym : m < symbolStart s.params s.tx.sh 48
  · obtain ⟨k, hk, hlo, hhi⟩ := exists_symbol hsym
    obtain ⟨t, ht, hphase⟩ := serializerRun_inSymbol hlegal hk hlo hhi
    have hbefore : ¬ (symbolStart s.params s.tx.sh 48 ≤ m ∧ m < frameCycles s.params s.tx.sh) := by omega
    have hbusy : m ≠ frameCycles s.params s.tx.sh := by omega
    refine ⟨t, ht, ?_⟩
    rw [hphase, inHighPart_iff hk hlo hhi]
    split <;> simp_all
  · have hlow := not_inHighPart (Nat.not_lt.1 hsym)
    obtain ⟨i, rfl⟩ := Nat.exists_eq_add_of_le (Nat.not_lt.1 hsym)
    rw [serializerRun_add, serializerRun_frameEnd hlegal, andThen_next]
    by_cases hin : i < s.params.latchCyc
    · refine ⟨_, serializerRun_within (by decide) (.inl rfl) hin, ?_⟩
      simp [hlow, hlatch, hin, Nat.ne_of_lt hin]
    · obtain rfl : i = s.params.latchCyc := by omega
      refine ⟨_, serializerRun_whole (by decide) (.inl rfl) (latchCyc_pos hlegal) exec_txAt_latchEnd, ?_⟩
      simp [hlow, hlatch]

end

/-! ## The frame in whole cycles -/

/-- The line is high in TX_HIGH alone (41_light_transmitter.md R174). -/
theorem ledDout_iff {s : State} : s.outputs.ledDout = true ↔ s.tx.phase = 1 := beq_iff_eq

/-- From the first cycle of a frame to the end of the latch whole cycles without reset move the serializer as its rows do, and
change nothing else but the overrun flag and the vectors still to come. -/
theorem runSteps_frame {s : State} (hlegal : s.params.legal = true) (hinv : s.invariant = true)
    (hinputs : ∀ v ∈ s.inputs, inRst v = false) (hstart : symbolBegun s 0 = s) {m : Nat}
    (hm : m ≤ frameCycles s.params s.tx.sh) :
    ∃ t, runSteps m s = .next t ∧
      t = { s with inputs := s.inputs.drop m, tx := t.tx, tickOverrun := t.tickOverrun } ∧
      (t.tx.phase = 1 ↔ InHighPart s.params s.tx.sh m) ∧
      (t.tx.phase = 3 ↔ symbolStart s.params s.tx.sh 48 ≤ m ∧ m < frameCycles s.params s.tx.sh) ∧
      (t.tx.phase = 0 ↔ m = frameCycles s.params s.tx.sh) := by
  have hframe := fun i => serializerRun_frame hlegal (m := i)
  rw [hstart] at hframe
  have hbusy : ∀ i, i < m → ∀ w, serializerRun i s = .next w → w.tx.phase ≠ 0 := fun i hi w hw h0 => by
    obtain ⟨w', hw', -, -, hidle⟩ := hframe i (by omega)
    cases hw.symm.trans hw'
    have hdone := hidle.1 h0
    omega
  obtain ⟨u, hu, hphases⟩ := hframe m hm
  obtain ⟨f, hf⟩ := runSteps_of_txBusy hlegal hinv hinputs hu hbusy
  exact ⟨_, hf, rfl, hphases⟩

end Sys2Proof.Machine

/-! SUPPORT. The obligations of 41_light_transmitter.md. -/

namespace Sys2Proof.Machine

/-- Settles O24: the load is the packed frame, and its bits are those of the buffer's bytes. -/
theorem txStartLoadsTheWholeBuffer : Obligations.TxStartLoadsTheWholeBuffer := by
  refine ⟨fun s hidle => ⟨packFrame s, ?_, fun k hk => frameBit_packFrame s hk⟩, fun s => exec_phTxStart_busy⟩
  rw [exec_phTxStart hidle, frameBit_packFrame s (by decide)]
  rfl

/-- Settles O25: each row by its inversion lemma, the next bit's place and the 6-bit counter written as in the statement. -/
theorem serializerRowsStep : Obligations.SerializerRowsStep := by
  refine ⟨fun s => rfl, fun s hbit => execTxHigh_eq_next.2 ⟨hbit, rfl⟩, fun s hbit => execTxLow_eq_next.2 ⟨hbit, ?_⟩,
    execTxLatch_eq, fun s hbit => ⟨execTxHigh_of_bit_gt hbit, execTxLow_of_bit_gt hbit⟩⟩
  have hnext : BitVec.ofNat 6 (s.tx.bit.toNat + 1) = s.tx.bit + 1 := by bv_omega
  have hplace : 47 - (s.tx.bit.toNat + 1) = 46 - s.tx.bit.toNat := by omega
  have hlast : s.tx.bit = 47 ↔ s.tx.bit.toNat = 47 := by bv_omega
  simp only [hlast, ne_eq, ite_not, highCycles, frameBit, hplace, hnext]

/-- Settles O29: the busy cycle is the serializer's row, and a reset clears `tx_*`. -/
theorem transmissionIsNotInterrupted : Obligations.TransmissionIsNotInterrupted := by
  refine ⟨fun s v hlegal hinv hbusy hrst => ⟨(invariant_iff.1 hinv).tx_idle hbusy, ?_⟩, fun s t v hrst h => ?_⟩
  · obtain ⟨u, hu, hstep⟩ := step_of_txBusy (s := driveInput s v) hlegal hinv hbusy hrst
    exact ⟨_, exec_txp_of_same (s' := s) hu rfl rfl, hstep⟩
  · obtain ⟨-, ⟨-, rfl⟩ | ⟨hrst', -⟩⟩ := step_next_cases h
    · exact ⟨rfl, rfl⟩
    · exact absurd (hrst.symm.trans hrst') (by decide)

/-- Settles O28: the TX_START cycle begins the first symbol, and the rest is the run of that frame, one cycle later. -/
theorem frameOnTheWire : Obligations.FrameOnTheWire := by
  intro s hlegal hinv hphase hinputs n hn hle
  obtain ⟨m, rfl⟩ := Nat.exists_eq_add_of_le hn
  have hstep := step_of_txStart hlegal hinv hphase (inRst_currentIn hinputs)
  obtain ⟨t, ht, -, hhigh, hlatch, hidle⟩ := runSteps_frame (s := txStarted s) hlegal (step_invariant hstep)
    (fun v hv => hinputs v (List.mem_of_mem_tail hv)) rfl (Nat.le_of_add_le_add_left hle)
  refine ⟨t, ?_, ?_⟩
  · rw [Nat.add_comm, runSteps_succ, hstep, andThen_next, ht]
  · rw [ledDout_iff, hhigh, hlatch, hidle, InHighPart]
    simp only [Nat.add_assoc, Nat.add_le_add_iff_left, Nat.add_lt_add_iff_left, Nat.add_left_cancel_iff]
    exact ⟨.rfl, .rfl, .rfl⟩

end Sys2Proof.Machine

/-! SUPPORT. The start of a program: what SndStart writes, and that a legal record's programs can be started
(44_sound_sequencer.md R264, R266, R267). -/

namespace Sys2Proof.Machine

/-- Program `q` of a record begins with entry `e` at index `i`, and SndEnter can enter that entry (44_sound_sequencer.md R266,
R267). -/
structure ProgramBegins (p : Params) (q i : Nat) (e : Entry) : Prop where
  base : p.programBase[q]? = some i
  inRom : i < p.sndRomDepth
  entry : p.sndRom[i]? = some e
  volume : isSentinel e = true ∨ entryVol e ≠ 3
  bound : 1 ≤ p.sndMaxSteps

/-- SndStart silences at a sentinel and enters a step, and writes `snd` alone (44_sound_sequencer.md R266). -/
theorem sndStart_eq {s : State} {q i : Nat} {e : Entry} (h : ProgramBegins s.params q i e) :
    sndStart q s = .next { s with snd := soundAfterStart s i e } := by
  have hbound := h.bound
  unfold sndStart sndEnter
  rw [h.base]
  refine (withRomEntry_found _ h.inRom h.entry).trans (enterEntry_eq_next.2 ?_)
  by_cases he : isSentinel e = true
  · exact .inl ⟨he, by simp [soundAfterStart, he, sndSilence]⟩
  · have hvol := h.volume.resolve_left he
    refine .inr (.inr ⟨by simpa using he, by simp; omega, hvol, ?_⟩)
    simp [soundAfterStart, he, loadStep, driveVolume, countdown]

/-- The constraints of 00_scope.md R7 and 44_sound_sequencer.md R264 on programs. -/
structure ProgramsLegal (p : Params) : Prop where
  length_eq : p.programBase.length = p.nPrograms
  base_lt : ∀ b ∈ p.programBase, b < p.sndRomDepth
  rom_length : p.sndRom.length = p.sndRomDepth
  rom : p.romLegal = true
  maxSteps_pos : 1 ≤ p.sndMaxSteps
  modeChange_lt : p.modeChangeProg < p.nPrograms
  boop_length : p.boopProg.length = p.modeCount
  boop_lt : ∀ q, some q ∈ p.boopProg → q < p.nPrograms

theorem programsLegal {p : Params} (h : p.legal = true) : ProgramsLegal p := by
  simp only [Params.legal, Params.soundLegal, inRange, Bool.and_eq_true, decide_eq_true_eq, beq_iff_eq,
    List.all_eq_true] at h
  obtain ⟨-, ⟨⟨⟨⟨⟨⟨⟨⟨⟨-, -⟩, hrom⟩, -⟩, hlen⟩, hbase⟩, hmode⟩, hboopLen⟩, hboop⟩, hmax, -⟩, hlegal⟩ := h
  exact ⟨hlen, hbase, hrom, hlegal, hmax, hmode, hboopLen, fun q hq => by simpa using hboop _ hq⟩

/-- Every program of a legal record can be started: its base is an index of the ROM, and the record check has looked at the
entry there (44_sound_sequencer.md R264). -/
theorem exists_programBegins {p : Params} (h : p.legal = true) {q : Nat} (hq : q < p.nPrograms) :
    ∃ i e, ProgramBegins p q i e := by
  have hp := programsLegal h
  obtain ⟨i, hbase⟩ : ∃ i, p.programBase[q]? = some i := ⟨_, List.getElem?_eq_getElem (hp.length_eq ▸ hq)⟩
  have hmem : i ∈ p.programBase := List.mem_of_getElem? hbase
  have hi : i < p.sndRomDepth := hp.base_lt i hmem
  obtain ⟨e, he⟩ : ∃ e, p.sndRom[i]? = some e := ⟨_, List.getElem?_eq_getElem (hp.rom_length ▸ hi)⟩
  refine ⟨i, e, hbase, hi, he, or_iff_not_imp_left.2 fun hstep => ?_, hp.maxSteps_pos⟩
  refine ((romLegal_iff p).1 hp.rom i i e hmem (Nat.le_refl i) he fun j e' hij hji he' => ?_).1
  obtain rfl := Nat.le_antisymm hji hij
  cases he.symm.trans he'
  exact mt isSentinel_iff.2 hstep

/-- A legal record says of each mode whether a touch starts a program, and which of its programs (00_scope.md R7). -/
theorem exists_boopProg {p : Params} (h : p.legal = true) {m : Nat} (hm : m < p.modeCount) :
    p.boopProg[m]? = some none ∨ ∃ q, p.boopProg[m]? = some (some q) ∧ q < p.nPrograms := by
  have hp := programsLegal h
  obtain ⟨o, ho⟩ : ∃ o, p.boopProg[m]? = some o := ⟨_, List.getElem?_eq_getElem (hp.boop_length ▸ hm)⟩
  cases o with
  | none => exact .inl ho
  | some q => exact .inr ⟨q, ho, hp.boop_lt q (List.mem_of_getElem? ho)⟩

end Sys2Proof.Machine

/-! SUPPORT. The debouncer's rows read forward: what each answers, case by case (42_touch_debouncer.md R206-R211). -/

namespace Sys2Proof.Machine

theorem overThreshold_iff {s : State} :
    overThreshold s = true ↔ s.params.touchThreshold < s.touch.senseVal.toNat := decide_eq_true_iff

/-- The debouncer's operation is the row that `db_state` selects (R206, 30_encoding.md R107). -/
theorem debouncerOp_eq_exec (s : State) : debouncerOp s = exec (decodeDb s.touch.dbState) s := by
  unfold debouncerOp decodeDb
  split <;> simp_all [exec]

/-- DEBOUNCE performs the debouncer's row, then IDLE follows (R206). -/
theorem exec_phDebounce (s : State) :
    exec .phDebounce s = andThen (exec (decodeDb s.touch.dbState) s) fun t => .next (setPhase t 0) := by
  rw [← debouncerOp_eq_exec]
  rfl

section
variable {s : State}

/-! ## DB_IDLE (R207) -/

theorem exec_dbIdle_of_not_over (hover : ¬ s.params.touchThreshold < s.touch.senseVal.toNat) :
    exec .dbIdle s = .next s :=
  if_neg (mt overThreshold_iff.1 hover)

theorem exec_dbIdle_of_over (hover : s.params.touchThreshold < s.touch.senseVal.toNat) :
    exec .dbIdle s = startBoop (beginTouch s) :=
  if_pos (overThreshold_iff.2 hover)

/-- A mode past `MODE_COUNT` has no entry to look up (log 4). -/
theorem startBoop_of_mode_ge (hmode : s.params.modeCount ≤ s.mode.toNat) : startBoop s = .fault .invariant :=
  if_neg (Nat.not_lt.2 hmode)

theorem startBoop_of_none (hmode : s.mode.toNat < s.params.modeCount)
    (hboop : s.params.boopProg[s.mode.toNat]? = some none) : startBoop s = .next s := by
  rw [startBoop, if_pos hmode, hboop]

theorem startBoop_of_some {q : Nat} (hmode : s.mode.toNat < s.params.modeCount)
    (hboop : s.params.boopProg[s.mode.toNat]? = some (some q)) : startBoop s = sndStart q s := by
  rw [startBoop, if_pos hmode, hboop]

/-- Under a legal record and in a mode of it the touch start's program writes `snd` alone, if anything. -/
theorem startBoop_answers (hlegal : s.params.legal = true) (hmode : s.mode.toNat < s.params.modeCount) :
    ∃ q, startBoop s = .next { s with snd := q } := by
  rcases exists_boopProg hlegal hmode with hnone | ⟨q, hsome, hq⟩
  · exact ⟨s.snd, startBoop_of_none hmode hnone⟩
  · obtain ⟨i, e, hbegins⟩ := exists_programBegins hlegal hq
    exact ⟨_, (startBoop_of_some hmode hsome).trans (sndStart_eq hbegins)⟩

/-! ## DB_TOUCHING (R208-R210) -/

theorem exec_dbTouching_of_not_over (hover : ¬ s.params.touchThreshold < s.touch.senseVal.toNat) :
    exec .dbTouching s = .next (releaseTouch s) :=
  if_neg (mt overThreshold_iff.1 hover)

theorem exec_dbTouching_of_over (hover : s.params.touchThreshold < s.touch.senseVal.toNat) :
    exec .dbTouching s = continueTouch s :=
  if_pos (overThreshold_iff.2 hover)

theorem continueTouch_count (hdur : s.touch.dur.toNat + 1 ≠ s.params.longTouch) :
    continueTouch s = .next { s with touch := { s.touch with dur := BitVec.ofNat 8 (s.touch.dur.toNat + 1) } } :=
  if_neg hdur

/-- The state after the mode-advance event but for its program (R209). -/
def modeAdvanced (s : State) : State :=
  { s with
    mode := BitVec.ofNat 8 ((s.mode.toNat + 1) % s.params.modeCount)
    touched := false
    touch := { s.touch with dur := 0 } }

theorem continueTouch_longTouch (hdur : s.touch.dur.toNat + 1 = s.params.longTouch) :
    continueTouch s = sndStart s.params.modeChangeProg (modeAdvanced s) :=
  if_pos hdur

/-- The next mode is cyclic and fits the register (R209). -/
theorem modeAdvanced_mode (hpos : 1 ≤ s.params.modeCount) (hle : s.params.modeCount ≤ 256) :
    (modeAdvanced s).mode.toNat = (s.mode.toNat + 1) % s.params.modeCount := by
  have hlt : (s.mode.toNat + 1) % s.params.modeCount < s.params.modeCount := Nat.mod_lt _ hpos
  show (BitVec.ofNat 8 _).toNat = _
  rw [BitVec.toNat_ofNat, Nat.mod_eq_of_lt (by omega)]

/-- Under a legal record a long touch advances the mode, and its program writes `snd` alone (R209). -/
theorem continueTouch_longTouch_answers (hlegal : s.params.legal = true)
    (hdur : s.touch.dur.toNat + 1 = s.params.longTouch) :
    ∃ q, continueTouch s = .next { modeAdvanced s with snd := q } := by
  obtain ⟨i, e, hbegins⟩ := exists_programBegins hlegal (programsLegal hlegal).modeChange_lt
  exact ⟨_, (continueTouch_longTouch hdur).trans (sndStart_eq (s := modeAdvanced s) hbegins)⟩

theorem continueTouch_answers (hlegal : s.params.legal = true) : ∃ t, continueTouch s = .next t := by
  by_cases hdur : s.touch.dur.toNat + 1 = s.params.longTouch
  · obtain ⟨q, h⟩ := continueTouch_longTouch_answers hlegal hdur
    exact ⟨_, h⟩
  · exact ⟨_, continueTouch_count hdur⟩

/-! ## Every row but the reserved one answers -/

theorem exec_dbIdle_answers (hlegal : s.params.legal = true) (hmode : s.mode.toNat < s.params.modeCount) :
    ∃ t, exec .dbIdle s = .next t := by
  by_cases hover : s.params.touchThreshold < s.touch.senseVal.toNat
  · obtain ⟨q, h⟩ := startBoop_answers (s := beginTouch s) hlegal hmode
    exact ⟨_, (exec_dbIdle_of_over hover).trans h⟩
  · exact ⟨s, exec_dbIdle_of_not_over hover⟩

theorem exec_dbTouching_answers (hlegal : s.params.legal = true) : ∃ t, exec .dbTouching s = .next t := by
  by_cases hover : s.params.touchThreshold < s.touch.senseVal.toNat
  · obtain ⟨t, h⟩ := continueTouch_answers hlegal
    exact ⟨t, (exec_dbTouching_of_over hover).trans h⟩
  · exact ⟨_, exec_dbTouching_of_not_over hover⟩

/-- Under a legal record, in a mode of the record, the row of every debouncer state but the reserved one answers (R206). -/
theorem exec_db_answers (hlegal : s.params.legal = true) (hmode : s.mode.toNat < s.params.modeCount) {c : Code2}
    (hc : c ≠ 3) : ∃ t, exec (decodeDb c) s = .next t := by
  obtain ⟨n⟩ := c
  fin_cases n
  · exact exec_dbIdle_answers hlegal hmode
  · exact exec_dbTouching_answers hlegal
  · exact ⟨_, rfl⟩
  · exact absurd rfl hc

end

/-! ## A touch, sample after sample (R214) -/

/-- `t` is the state after `k` consecutive samples over the threshold, the first of them taken in `s`: what R214 says of the
mode, the duration and `touched`, and what the next sample reads. -/
structure TouchedFor (s : State) (k : Nat) (t : State) : Prop where
  params_eq : t.params = s.params
  senseVal_eq : t.touch.senseVal = s.touch.senseVal
  mode_eq : t.mode.toNat = (s.mode.toNat + k / s.params.longTouch) % s.params.modeCount
  dur_eq : t.touch.dur.toNat = k % s.params.longTouch
  touched_eq : t.touched = decide (k < s.params.longTouch)
  dbState_eq : t.touch.dbState = 1

/-- Counting one more: the remainder rises by 1, unless it was the last one, when the quotient does. -/
theorem div_mod_succ {k m : Nat} (hm : 2 ≤ m) :
    (k + 1) / m = (if k % m + 1 = m then k / m + 1 else k / m) ∧
      (k + 1) % m = if k % m + 1 = m then 0 else k % m + 1 := by
  have hlt : k % m < m := Nat.mod_lt _ (by omega)
  have hdiv := Nat.add_div (a := k) (b := 1) (c := m) (by omega)
  have hmod := Nat.add_mod_eq_ite (m := k) (n := 1) (k := m)
  rw [Nat.div_eq_of_lt (a := 1) (by omega), Nat.mod_eq_of_lt (a := 1) (by omega)] at hdiv
  rw [Nat.mod_eq_of_lt (a := 1) (by omega)] at hmod
  rw [hdiv, hmod]
  split_ifs <;> omega

/-- The first sample over the threshold starts the touch (R207). -/
theorem touchedFor_one {s : State} (hlegal : s.params.legal = true) (hmode : s.mode.toNat < s.params.modeCount)
    (hover : s.params.touchThreshold < s.touch.senseVal.toNat) :
    ∃ u, exec .dbIdle s = .next u ∧ TouchedFor s 1 u := by
  have hlong := (longTouch_range hlegal).1
  obtain ⟨q, hq⟩ := startBoop_answers (s := beginTouch s) hlegal hmode
  refine ⟨_, (exec_dbIdle_of_over hover).trans hq, rfl, rfl, ?_, ?_, ?_, rfl⟩
  · rw [Nat.div_eq_of_lt hlong, Nat.add_zero, Nat.mod_eq_of_lt hmode]
    rfl
  · rw [Nat.mod_eq_of_lt hlong]
    rfl
  · exact (decide_eq_true hlong).symm

/-- One more sample over the threshold: the duration counts, and at `LONG_TOUCH` the mode advances (R208, R209). -/
theorem TouchedFor.next {s t : State} {k : Nat} (h : TouchedFor s k t) (hlegal : s.params.legal = true)
    (hover : s.params.touchThreshold < s.touch.senseVal.toNat) :
    ∃ u, exec .dbTouching t = .next u ∧ TouchedFor s (k + 1) u := by
  have hlong := longTouch_range hlegal
  have hmodes := modeCount_range hlegal
  obtain ⟨hdiv, hmod⟩ := div_mod_succ (k := k) hlong.1
  have hkmod : k % s.params.longTouch ≤ k := Nat.mod_le _ _
  have htover : t.params.touchThreshold < t.touch.senseVal.toNat := by rwa [h.params_eq, h.senseVal_eq]
  rw [exec_dbTouching_of_over htover]
  by_cases hdur : k % s.params.longTouch + 1 = s.params.longTouch
  · rw [if_pos hdur] at hdiv hmod
    obtain ⟨q, hq⟩ := continueTouch_longTouch_answers (s := t) (by rwa [h.params_eq])
      (by rw [h.dur_eq, h.params_eq, hdur])
    refine ⟨_, hq, h.params_eq, h.senseVal_eq, ?_, ?_, ?_, h.dbState_eq⟩
    · show (modeAdvanced t).mode.toNat = _
      rw [modeAdvanced_mode (by rw [h.params_eq]; exact hmodes.1) (by rw [h.params_eq]; exact hmodes.2), h.params_eq,
        h.mode_eq, Nat.mod_add_mod, hdiv, Nat.add_assoc]
    · exact hmod.symm
    · exact (decide_eq_false (by omega)).symm
  · rw [if_neg hdur] at hdiv hmod
    have hlt : k % s.params.longTouch < s.params.longTouch := Nat.mod_lt _ (by omega)
    refine ⟨_, continueTouch_count (by rwa [h.dur_eq, h.params_eq]), h.params_eq, h.senseVal_eq, ?_, ?_, ?_, h.dbState_eq⟩
    · rw [hdiv]
      exact h.mode_eq
    · show (BitVec.ofNat 8 _).toNat = _
      rw [BitVec.toNat_ofNat, h.dur_eq, hmod]
      omega
    · rw [h.touched_eq]
      by_cases hk : k < s.params.longTouch
      · rw [Nat.mod_eq_of_lt hk] at hdur
        exact decide_eq_decide.2 (by omega)
      · exact decide_eq_decide.2 (by omega)

/-- The samples that follow (R214). -/
theorem TouchedFor.run {s t : State} {k : Nat} (h : TouchedFor s k t) (hlegal : s.params.legal = true)
    (hover : s.params.touchThreshold < s.touch.senseVal.toNat) (n : Nat) :
    ∃ u, execTimes .dbTouching n t = .next u ∧ TouchedFor s (k + n) u := by
  induction n generalizing k t with
  | zero => exact ⟨t, rfl, h⟩
  | succ n ih =>
    obtain ⟨a, ha, hnext⟩ := h.next hlegal hover
    obtain ⟨u, hu, hrun⟩ := ih hnext
    refine ⟨u, ?_, by rwa [Nat.add_right_comm] at hrun⟩
    show andThen (exec .dbTouching t) _ = _
    rw [ha, andThen_next, hu]

end Sys2Proof.Machine

/-! SUPPORT. The sense requests and the calibration read forward: what each row answers, and the exact values of the registers
it writes (42_touch_debouncer.md R202-R205, R212). -/

namespace Sys2Proof.Machine

/-! ## Exact values -/

theorem calibrated_toNat (raw baseline : Half) : (calibrated raw baseline).toNat = raw.toNat - baseline.toNat := by
  have hraw := raw.isLt
  unfold calibrated
  split
  · rw [BitVec.toNat_ofNat]
    omega
  · show 0 = _
    omega

theorem calSamples_eq {p : Params} (h : p.legal = true) : p.calSamples = 10 := by
  simp only [Params.legal, Params.touchLegal, inRange, Bool.and_eq_true, decide_eq_true_eq, beq_iff_eq] at h
  omega

theorem calGapCyc_range {p : Params} (h : p.legal = true) : 1 ≤ p.calGapCyc ∧ p.calGapCyc ≤ 2 ^ 20 - 1 := by
  simp only [Params.legal, Params.touchLegal, inRange, Bool.and_eq_true, decide_eq_true_eq] at h
  omega

/-- The gap's first count fits its register (R203). -/
theorem calTimer_ofNat_toNat {p : Params} (h : p.legal = true) :
    (BitVec.ofNat 20 (p.calGapCyc - 1)).toNat = p.calGapCyc - 1 := by
  have hgap := calGapCyc_range h
  rw [BitVec.toNat_ofNat]
  omega

/-- The mean of ten readings is a reading (R205). -/
theorem average_toNat {p : Params} (h : p.legal = true) {sum : BitVec 20} (hsum : sum.toNat ≤ 10 * 65535) :
    (average p sum).toNat = sum.toNat / 10 := by
  rw [average, calSamples_eq h, BitVec.toNat_ofNat]
  omega

section
variable {s : State}

/-! ## Request cycles with and without an ack -/

theorem exec_phSenseWait_of_ack (hack : inAck (currentIn s) = true) :
    exec .phSenseWait s = .next (captureReading (inData (currentIn s)) s) :=
  if_pos hack

theorem exec_phSenseWait_of_noAck (hack : inAck (currentIn s) = false) :
    exec .phSenseWait s = .next (senseTimeoutOp s abandonReading) :=
  if_neg (by simp [hack])

theorem exec_phCalWait_of_ack (hack : inAck (currentIn s) = true) :
    exec .phCalWait s = .next (calibrationReading (inData (currentIn s)) s) :=
  if_pos hack

theorem exec_phCalWait_of_noAck (hack : inAck (currentIn s) = false) :
    exec .phCalWait s = .next (senseTimeoutOp s (calibrationReading 0#16)) :=
  if_neg (by simp [hack])

/-! ## The timeout (R212) -/

variable {expire : State → State}

theorem senseTimeoutOp_of_none (h : s.params.senseTimeoutCyc = none) : senseTimeoutOp s expire = s := by
  rw [senseTimeoutOp, h]

theorem senseTimeoutOp_of_last {n : Nat} (h : s.params.senseTimeoutCyc = some n) (hlast : s.touch.senseTmr.toNat = n - 1) :
    senseTimeoutOp s expire = expire { s with touch := { s.touch with senseTimeout := true, senseTmr := 0 } } := by
  simp only [senseTimeoutOp, h]
  exact if_pos hlast

theorem senseTimeoutOp_of_earlier {n : Nat} (h : s.params.senseTimeoutCyc = some n)
    (hearlier : s.touch.senseTmr.toNat ≠ n - 1) : senseTimeoutOp s expire =
      { s with touch := { s.touch with senseTmr := BitVec.ofNat 20 (s.touch.senseTmr.toNat + 1) } } := by
  simp only [senseTimeoutOp, h]
  exact if_neg hearlier

/-! ## A reading of the calibration (R203) -/

/-- Under a legal record the reading after nine others is the tenth one. -/
theorem calibrationReading_eq (hlegal : s.params.legal = true) (raw : Half) : calibrationReading raw s =
    if s.touch.calCnt = 9 then { s with
      phase := 10
      touch := { s.touch with
        calCnt := s.touch.calCnt + 1
        calSum := BitVec.ofNat 20 (s.touch.calSum.toNat + raw.toNat)
        senseTmr := 0 } }
    else { s with
      phase := 9
      touch := { s.touch with
        calCnt := s.touch.calCnt + 1
        calSum := BitVec.ofNat 20 (s.touch.calSum.toNat + raw.toNat)
        senseTmr := 0
        calTimer := BitVec.ofNat 20 (s.params.calGapCyc - 1) } } := by
  have hcnt : BitVec.ofNat 4 (s.touch.calCnt.toNat + 1) = s.touch.calCnt + 1 := by bv_omega
  have htenth : s.touch.calCnt.toNat + 1 = s.params.calSamples ↔ s.touch.calCnt = 9 := by
    rw [calSamples_eq hlegal]
    bv_omega
  simp only [calibrationReading, htenth, hcnt]

theorem calCnt_succ_toNat (h : s.touch.calCnt.toNat ≤ 9) : (s.touch.calCnt + 1).toNat = s.touch.calCnt.toNat + 1 := by
  bv_omega

/-- A reading keeps the flag (R203). -/
@[simp] theorem calibrationReading_senseTimeout (raw : Half) (s : State) :
    (calibrationReading raw s).touch.senseTimeout = s.touch.senseTimeout := by unfold calibrationReading; split <;> rfl

/-- After a reading no request is open: the gap or CAL_DONE follows (R203). -/
theorem calibrationReading_phase (raw : Half) (s : State) :
    (calibrationReading raw s).phase = 9 ∨ (calibrationReading raw s).phase = 10 := by
  unfold calibrationReading
  split
  · exact .inr rfl
  · exact .inl rfl

end

end Sys2Proof.Machine

/-! SUPPORT. A cycle reads its input vector in three places alone: the tick in IDLE, the ack and its reading in a request
(42_touch_debouncer.md R201, 45_tick_dispatcher.md R291). -/

namespace Sys2Proof.Machine

/-! ## Operations that do not read the input vector -/

/-- The operation answers alike under every current input vector, and keeps the vector. -/
def InputBlind (op : State → Result) : Prop :=
  ∀ s v, op (driveInput s v) = andThen (op s) fun t => .next (driveInput t v)

namespace InputBlind

/-- An update that neither reads nor writes the vector. -/
theorem next {f : State → State} (hf : ∀ s v, f (driveInput s v) = driveInput (f s) v) :
    InputBlind fun s => .next (f s) := fun s v => congrArg _ (hf s v)

theorem fault (f : Fault) : InputBlind fun _ => .fault f := fun _ _ => rfl

theorem refused (q : Refusal) : InputBlind fun _ => .refused q := fun _ _ => rfl

theorem ite {c : State → Prop} [DecidablePred c] {a b : State → Result} (hc : ∀ s v, c (driveInput s v) ↔ c s)
    (ha : InputBlind a) (hb : InputBlind b) : InputBlind fun s => if c s then a s else b s := fun s v => by
  by_cases h : c s
  · simp only [hc, if_pos h, ha s v]
  · simp only [hc, if_neg h, hb s v]

theorem andThen {a k : State → Result} (ha : InputBlind a) (hk : InputBlind k) :
    InputBlind fun s => Machine.andThen (a s) k := fun s v => by
  simp only [ha s v]
  cases a s with
  | next t => exact hk t v
  | fault f => rfl
  | refused q => rfl

/-- A blind operation on an updated state. -/
theorem comp {a : State → Result} {f : State → State} (ha : InputBlind a)
    (hf : ∀ s v, f (driveInput s v) = driveInput (f s) v) : InputBlind fun s => a (f s) := fun s v => by
  simp only [hf, ha (f s) v]

end InputBlind

/-! ## The sound sequencer -/

theorem applyVolume_inputBlind (c : Code2) : InputBlind (applyVolume c) := by
  obtain ⟨n⟩ := c
  intro s v
  fin_cases n <;> rfl

theorem enterEntry_inputBlind (e : Entry) : InputBlind (enterEntry e) :=
  .ite (fun _ _ => .rfl) (.next fun _ _ => rfl)
    (.ite (fun _ _ => .rfl) (.next fun _ _ => rfl)
      (.ite (fun _ _ => .rfl) (.next fun _ _ => rfl) ((applyVolume_inputBlind _).comp fun _ _ => rfl)))

theorem withRomEntry_inputBlind {i : State → Nat} {k : State → Entry → Result} (hi : ∀ s v, i (driveInput s v) = i s)
    (hk : ∀ e, InputBlind fun s => k s e) : InputBlind fun s => withRomEntry s (i s) (k s) := fun s v => by
  simp only [withRomEntry, hi, driveInput_params]
  split
  · cases s.params.sndRom[i s]? with
    | none => rfl
    | some e => exact hk e s v
  · rfl

theorem sndEnter_inputBlind (i : Nat) : InputBlind (sndEnter i) :=
  withRomEntry_inputBlind (fun _ _ => rfl) enterEntry_inputBlind

theorem sndStart_inputBlind (q : Nat) : InputBlind (sndStart q) := fun s v => by
  simp only [sndStart, driveInput_params]
  cases s.params.programBase[q]? with
  | none => rfl
  | some i => exact sndEnter_inputBlind i { s with snd := { s.snd with ptr := BitVec.ofNat 8 i, steps := 0 } } v

theorem sndAdvance_inputBlind : InputBlind sndAdvance :=
  .ite (fun _ _ => .rfl) (.next fun _ _ => rfl) fun s v => sndEnter_inputBlind (s.snd.ptr.toNat + 1)
    { s with snd := { s.snd with ptr := BitVec.ofNat 8 (s.snd.ptr.toNat + 1) } } v

theorem sndStep_inputBlind : InputBlind sndStep :=
  withRomEntry_inputBlind (fun _ _ => rfl) fun _ =>
    .ite (fun _ _ => .rfl) sndAdvance_inputBlind
      (.ite (fun _ _ => .rfl) (sndAdvance_inputBlind.comp fun _ _ => rfl) (.next fun _ _ => rfl))

theorem execPhSndStep_inputBlind : InputBlind execPhSndStep :=
  .andThen (.ite (fun _ _ => .rfl) sndStep_inputBlind (.next fun _ _ => rfl)) (.next fun _ _ => rfl)

/-! ## The animation engine and the serializer -/

theorem withMode_inputBlind {k : State → HsvPair → Nat → Result} (hk : ∀ pair n, InputBlind fun s => k s pair n) :
    InputBlind fun s => withMode s (k s) := by
  refine .ite (fun _ _ => .rfl) (fun s v => ?_) (.fault _)
  rw [driveInput_params, driveInput_mode, driveInput_touched, driveInput_frame]
  cases s.params.modeTable[s.mode.toNat]? with
  | none => rfl
  | some m =>
    cases s.params.touchFrames[s.mode.toNat]? with
    | none => rfl
    | some n =>
      dsimp only
      cases behaviourAt (if s.touched then m.touched else m.idle) s.frame with
      | none => rfl
      | some pair => exact hk pair n s v

theorem execPhRender_inputBlind : InputBlind execPhRender :=
  .ite (fun _ _ => .rfl) (withMode_inputBlind fun _ _ => .next fun _ _ => rfl) (.refused _)

theorem execPhTxStart_inputBlind : InputBlind execPhTxStart := by
  refine .andThen (.ite (fun _ _ => .rfl) (fun s v => ?_) (.fault _)) (.next fun _ _ => rfl)
  simp only [beginSymbol_eq]
  rfl

theorem execTxHigh_inputBlind : InputBlind execTxHigh :=
  .ite (fun _ _ => .rfl) (.ite (fun _ _ => .rfl) (.next fun _ _ => rfl) (.next fun _ _ => rfl)) (.fault _)

theorem execTxLow_inputBlind : InputBlind execTxLow := by
  refine .ite (fun _ _ => .rfl) (.ite (fun _ _ => .rfl) (.ite (fun _ _ => .rfl) (.next fun _ _ => rfl) fun s v => ?_)
    (.next fun _ _ => rfl)) (.fault _)
  simp only [beginSymbol_eq]
  rfl

theorem execTxLatch_inputBlind : InputBlind execTxLatch :=
  .ite (fun _ _ => .rfl) (.next fun _ _ => rfl) (.next fun _ _ => rfl)

/-! ## The debouncer -/

theorem startBoop_inputBlind : InputBlind startBoop := by
  refine .ite (fun _ _ => .rfl) (fun s v => ?_) (.fault _)
  simp only [driveInput_params, driveInput_mode]
  cases s.params.boopProg[s.mode.toNat]? with
  | none => rfl
  | some o =>
    cases o with
    | none => rfl
    | some q => exact sndStart_inputBlind q s v

theorem execDbIdle_inputBlind : InputBlind execDbIdle :=
  .ite (fun _ _ => .rfl) (startBoop_inputBlind.comp fun _ _ => rfl) (.next fun _ _ => rfl)

theorem continueTouch_inputBlind : InputBlind continueTouch :=
  .ite (fun _ _ => .rfl) (fun s v => sndStart_inputBlind _ (modeAdvanced s) v) (.next fun _ _ => rfl)

theorem releaseTouch_driveInput (s : State) (v : InVec) :
    releaseTouch (driveInput s v) = driveInput (releaseTouch s) v := by
  rw [releaseTouch, releaseTouch, apply_ite (driveInput · v)]
  rfl

theorem execDbTouching_inputBlind : InputBlind execDbTouching :=
  .ite (fun _ _ => .rfl) continueTouch_inputBlind (.next releaseTouch_driveInput)

theorem exec_db_inputBlind (c : Code2) : InputBlind (exec (decodeDb c)) := by
  obtain ⟨n⟩ := c
  fin_cases n
  · exact execDbIdle_inputBlind
  · exact execDbTouching_inputBlind
  · exact .next fun _ _ => rfl
  · exact .fault _

theorem execPhDebounce_inputBlind : InputBlind execPhDebounce := by
  refine .andThen (fun s v => ?_) (.next fun _ _ => rfl)
  rw [debouncerOp_eq_exec, debouncerOp_eq_exec]
  exact exec_db_inputBlind _ s v

/-! ## The rows of a cycle -/

theorem exec_txp_inputBlind (c : Code2) : InputBlind (exec (decodeTxp c)) := by
  obtain ⟨n⟩ := c
  fin_cases n
  · exact .next fun _ _ => rfl
  · exact execTxHigh_inputBlind
  · exact execTxLow_inputBlind
  · exact execTxLatch_inputBlind

/-- IDLE reads the tick, SENSE_WAIT and CAL_WAIT the ack; the row of every other phase is blind. -/
theorem exec_ph_inputBlind {c : PhaseCode} (h0 : c ≠ 0) (h6 : c ≠ 6) (h8 : c ≠ 8) : InputBlind (exec (decodePh c)) := by
  obtain ⟨n⟩ := c
  fin_cases n
  · exact absurd rfl h0
  · exact execPhSndStep_inputBlind
  · exact execPhRender_inputBlind
  · exact execPhTxStart_inputBlind
  · exact .ite (fun _ _ => .rfl) (.next fun _ _ => rfl) (.next fun _ _ => rfl)
  · exact .next fun _ _ => rfl
  · exact absurd rfl h6
  · exact execPhDebounce_inputBlind
  · exact absurd rfl h8
  · exact .ite (fun _ _ => .rfl) (.next fun _ _ => rfl) (.next fun _ _ => rfl)
  · exact .next fun _ _ => rfl
  all_goals exact .fault _

/-- A request cycle without an ack reads no more of the vector if its expiry does not (R212). -/
theorem senseTimeoutOp_driveInput {expire : State → State}
    (hexpire : ∀ s v, expire (driveInput s v) = driveInput (expire s) v) (s : State) (v : InVec) :
    senseTimeoutOp (driveInput s v) expire = driveInput (senseTimeoutOp s expire) v := by
  cases h : s.params.senseTimeoutCyc with
  | none => rw [senseTimeoutOp_of_none h, senseTimeoutOp_of_none (s := driveInput s v) h]
  | some n =>
    by_cases hlast : s.touch.senseTmr.toNat = n - 1
    · rw [senseTimeoutOp_of_last h hlast, senseTimeoutOp_of_last (s := driveInput s v) h hlast]
      exact hexpire { s with touch := { s.touch with senseTimeout := true, senseTmr := 0 } } v
    · rw [senseTimeoutOp_of_earlier h hlast, senseTimeoutOp_of_earlier (s := driveInput s v) h hlast]
      rfl

theorem calibrationReading_driveInput (raw : Half) (s : State) (v : InVec) :
    calibrationReading raw (driveInput s v) = driveInput (calibrationReading raw s) v := by
  rw [calibrationReading, calibrationReading, apply_ite (driveInput · v)]
  rfl

theorem exec_phIdle_of_tick {s : State} (htick : inTick (currentIn s) = true) :
    exec .phIdle s = .next (setPhase s 1) :=
  if_pos htick

theorem exec_phIdle_of_noTick {s : State} (htick : ¬ inTick (currentIn s) = true) : exec .phIdle s = .next s :=
  if_neg htick

/-- IDLE reads no more of the vector than its tick (45_tick_dispatcher.md R291). -/
theorem exec_phIdle_driveInput {v w : InVec} (htick : inTick v = inTick w) (s : State) :
    exec .phIdle (driveInput s v) = andThen (exec .phIdle (driveInput s w)) fun t => .next (driveInput t v) := by
  by_cases h : inTick w = true
  · rw [exec_phIdle_of_tick (s := driveInput s v) (htick.trans h), exec_phIdle_of_tick (s := driveInput s w) h]
    rfl
  · rw [exec_phIdle_of_noTick (s := driveInput s v) (htick ▸ h), exec_phIdle_of_noTick (s := driveInput s w) h]
    rfl

theorem exec_phSenseWait_driveInput {v w : InVec} (hv : inAck v = false) (hw : inAck w = false) (s : State) :
    exec .phSenseWait (driveInput s v) =
      andThen (exec .phSenseWait (driveInput s w)) fun t => .next (driveInput t v) := by
  rw [exec_phSenseWait_of_noAck (s := driveInput s v) hv, exec_phSenseWait_of_noAck (s := driveInput s w) hw, andThen_next,
    ← senseTimeoutOp_driveInput fun _ _ => rfl]
  rfl

theorem exec_phCalWait_driveInput {v w : InVec} (hv : inAck v = false) (hw : inAck w = false) (s : State) :
    exec .phCalWait (driveInput s v) =
      andThen (exec .phCalWait (driveInput s w)) fun t => .next (driveInput t v) := by
  rw [exec_phCalWait_of_noAck (s := driveInput s v) hv, exec_phCalWait_of_noAck (s := driveInput s w) hw, andThen_next,
    ← senseTimeoutOp_driveInput (calibrationReading_driveInput 0#16)]
  rfl

/-- Two vectors with the same tick, and in a request both without an ack, drive the dispatcher's row alike (R201). -/
theorem exec_ph_driveInput {c : PhaseCode} {v w : InVec} (htick : inTick v = inTick w)
    (hack : c = 6 ∨ c = 8 → inAck v = false ∧ inAck w = false) (s : State) :
    exec (decodePh c) (driveInput s v) =
      andThen (exec (decodePh c) (driveInput s w)) fun t => .next (driveInput t v) := by
  by_cases h0 : c = 0
  · rw [h0]
    exact exec_phIdle_driveInput htick s
  by_cases h6 : c = 6
  · obtain ⟨hv, hw⟩ := hack (.inl h6)
    rw [h6]
    exact exec_phSenseWait_driveInput hv hw s
  by_cases h8 : c = 8
  · obtain ⟨hv, hw⟩ := hack (.inr h8)
    rw [h8]
    exact exec_phCalWait_driveInput hv hw s
  · exact exec_ph_inputBlind h0 h6 h8 (driveInput s w) v

/-- A cycle consumes its vector. -/
theorem popInput_commitCycle_driveInput (s a b : State) (v w : InVec) :
    popInput (commitCycle (driveInput s v) (driveInput a v) (driveInput b v)) =
      popInput (commitCycle (driveInput s w) a b) := by
  cases hidle : txIsIdle s <;> simp only [commitCycle, driveInput_txIsIdle, hidle] <;> rfl

/-- Two vectors with the same tick, and in a request both without an ack, give the same cycle (R201). -/
theorem runCycle_congr {s : State} {v w : InVec} (htick : inTick v = inTick w)
    (hack : s.phase = 6 ∨ s.phase = 8 → inAck v = false ∧ inAck w = false) : runCycle v s = runCycle w s := by
  have hdisp := (dispatcherOp_eq_exec (driveInput s v)).trans (exec_ph_driveInput htick hack s)
  have hser := (serializerOp_eq_exec (driveInput s v)).trans (exec_txp_inputBlind s.tx.phase (driveInput s w) v)
  rw [runCycle, runCycle, bothOps, bothOps, hdisp, hser, dispatcherOp_eq_exec, serializerOp_eq_exec, driveInput_phase,
    driveInput_tx]
  congr 1
  cases exec (decodePh s.phase) (driveInput s w) with
  | fault f => rfl
  | refused q => rfl
  | next a =>
    cases exec (decodeTxp s.tx.phase) (driveInput s w) with
    | fault f => rfl
    | refused q => rfl
    | next b => exact congrArg _ (popInput_commitCycle_driveInput s a b v w)

end Sys2Proof.Machine

/-! SUPPORT. The mode: the mode-advance event alone writes it (42_touch_debouncer.md R209, R214). -/

namespace Sys2Proof.Machine

/-- A mode change is a long touch, and does what R209 says. -/
theorem DebouncerRow.mode_change {c : Code2} {s t : State} (h : DebouncerRow s c t) (hne : t.mode ≠ s.mode) :
    c = 1 ∧ s.params.touchThreshold < s.touch.senseVal.toNat ∧ s.touch.dur.toNat + 1 = s.params.longTouch ∧
      t.mode = (modeAdvanced s).mode ∧ t.touched = false ∧ t.touch.dur = 0 := by
  cases h with
  | longTouch hover hdur => exact ⟨rfl, overThreshold_iff.1 hover, hdur, rfl, rfl, rfl⟩
  | release => exact absurd (releaseTouch_mode s) hne
  | _ => exact absurd rfl hne

/-- DEBOUNCE alone writes the mode. -/
theorem PhaseRow.mode {c : PhaseCode} {s t : State} (h : PhaseRow s c t) (h7 : c ≠ 7) : t.mode = s.mode := by
  cases h with
  | debounce => exact absurd rfl h7
  | senseHold _ => exact senseTimeoutOp_field State.mode s (fun _ _ => rfl) abandonReading_mode
  | calHold _ => exact senseTimeoutOp_field State.mode s (fun _ _ => rfl) (calibrationReading_mode _)
  | _ => simp

/-- A row that changes the mode is DEBOUNCE's long touch (R209). -/
theorem PhaseRow.mode_change {c : PhaseCode} {s t : State} (h : PhaseRow s c t) (hne : t.mode ≠ s.mode) :
    c = 7 ∧ s.touch.dbState = 1 ∧ s.params.touchThreshold < s.touch.senseVal.toNat ∧
      s.touch.dur.toNat + 1 = s.params.longTouch ∧ t.mode = (modeAdvanced s).mode ∧ t.touched = false ∧
      t.touch.dur = 0 := by
  by_cases h7 : c = 7
  · subst h7
    cases h with
    | debounce hrow => exact ⟨rfl, hrow.mode_change hne⟩
  · exact absurd (h.mode h7) hne

end Sys2Proof.Machine

/-! SUPPORT. The obligations of 42_touch_debouncer.md. -/

namespace Sys2Proof.Machine

theorem senseReq_iff {s : State} : s.outputs.senseReq = true ↔ s.phase = 6 ∨ s.phase = 8 := by
  simp [State.outputs]

/-- Settles O12: the cycle's check finds the reserved state before it runs the cycle, and what a step leaves keeps R45. -/
theorem reservedDebouncerStateIsAModelFault : Obligations.ReservedDebouncerStateIsAModelFault := by
  refine ⟨fun s hlegal hrst hphase hdb => ?_, fun s => rfl, fun s hdb => ?_,
    fun s t h => (invariant_iff.1 (step_invariant h)).debouncer.dbState_ne⟩
  · have hcycle : runCycle (currentIn s) s = .fault .reservedDbState := by simp [runCycle, admitted, hlegal, hphase, hdb]
    rcases step_cases s with ⟨hrst', -⟩ | ⟨-, hstep⟩
    · exact absurd (hrst.symm.trans hrst') (by decide)
    · rw [hstep, hcycle, andThen_fault]
  · rw [exec_phDebounce, hdb]
    rfl

/-- Settles O21: a cycle reads the ack and its reading in a request alone, and the row of an accepted ack leaves it. -/
theorem ackCountsOnlyDuringARequest : Obligations.AckCountsOnlyDuringARequest := by
  refine ⟨fun s => senseReq_iff, fun s d e h6 h8 => ?_, fun s d e => ?_, fun s t d hphase h => ?_,
    fun s d hlegal hinv hphase => ⟨calibrated d s.touch.baseline, calibrated_toNat _ _, ?_⟩⟩
  · exact runCycle_congr (by simp) fun h => absurd h (not_or.2 ⟨h6, h8⟩)
  · exact runCycle_congr (by simp) fun _ => by simp
  · obtain ⟨-, -, -, -, a, b, ha, -, rfl⟩ := runCycle_eq_next.1 h
    have hack : inAck (currentIn (driveInput s (inputVector false false true d))) = true := inAck_inputVector _ _ _ _
    have hnext : a.phase = 7 ∨ a.phase = 9 ∨ a.phase = 10 := by
      rw [dispatcherOp_eq_exec] at ha
      rcases hphase with h6 | h8
      · rw [driveInput_phase, h6] at ha
        cases (exec_phSenseWait_of_ack hack).symm.trans ha
        exact .inl rfl
      · rw [driveInput_phase, h8] at ha
        cases (exec_phCalWait_of_ack hack).symm.trans ha
        exact .inr (calibrationReading_phase _ _)
    rw [Bool.eq_false_iff, ne_eq, senseReq_iff, popInput_phase, commitCycle_phase]
    rcases hnext with h | h | h <;> rw [h] <;> decide
  · have hidle : s.tx.phase = 0 := (invariant_iff.1 hinv).tx_phase_eq_zero (by rw [hphase]; decide)
    have hcapture := exec_phSenseWait_of_ack (s := driveInput s (inputVector false false true d)) (inAck_inputVector _ _ _ _)
    have hcycle := cycleRunsPhaseAndSerializer s _ _ true d hlegal hinv (by rw [hphase]; exact hcapture)
      (by rw [hidle]; rfl)
    rw [if_pos rfl, if_pos hidle] at hcycle
    rw [hcycle, show inData (currentIn (driveInput s (inputVector false false true d))) = d from inData_inputVector _ _ _ _]
    rfl

/-- Settles O39: before its last cycle a request counts; in it the flag is set, and CAL_WAIT takes a raw 0. -/
theorem senseTimeoutAbandonsTheRequest : Obligations.SenseTimeoutAbandonsTheRequest := by
  refine fun s n hn hmax hmin => ⟨fun hack hlt => ?_, fun hack hlast => ⟨?_, fun hlegal hcnt => ?_⟩, fun hack t h => ?_⟩
  · have hne : s.touch.senseTmr.toNat ≠ n - 1 := Nat.ne_of_lt hlt
    refine ⟨BitVec.ofNat 20 (s.touch.senseTmr.toNat + 1), ?_, ?_, ?_⟩
    · rw [BitVec.toNat_ofNat]
      omega
    · rw [exec_phSenseWait_of_noAck hack, senseTimeoutOp_of_earlier hn hne]
    · rw [exec_phCalWait_of_noAck hack, senseTimeoutOp_of_earlier hn hne]
  · rw [exec_phSenseWait_of_noAck hack, senseTimeoutOp_of_last hn hlast]
    rfl
  · refine ⟨s.touch.calCnt + 1, BitVec.ofNat 20 (s.params.calGapCyc - 1), calCnt_succ_toNat hcnt,
      calTimer_ofNat_toNat hlegal, ?_⟩
    rw [exec_phCalWait_of_noAck hack, senseTimeoutOp_of_last hn hlast, calibrationReading_eq
      (s := { s with touch := { s.touch with senseTimeout := true, senseTmr := 0 } }) hlegal]
    simp
  · rcases h with h | h
    · cases (exec_phSenseWait_of_ack hack).symm.trans h
      rfl
    · cases (exec_phCalWait_of_ack hack).symm.trans h
      exact calibrationReading_senseTimeout _ _

/-- Settles O40: ten readings of 16 bits fit the sum's 20 bits. -/
theorem calibrationCountsTenReadings : Obligations.CalibrationCountsTenReadings := by
  refine fun s hlegal => ⟨fun hack hcnt hsum => ?_, fun hack hnone => ?_⟩
  · have hdata := (inData (currentIn s)).isLt
    refine ⟨s.touch.calCnt + 1, BitVec.ofNat 20 (s.touch.calSum.toNat + (inData (currentIn s)).toNat),
      BitVec.ofNat 20 (s.params.calGapCyc - 1), calCnt_succ_toNat hcnt, ?_, calTimer_ofNat_toNat hlegal, ?_⟩
    · rw [BitVec.toNat_ofNat]
      omega
    · rw [exec_phCalWait_of_ack hack, calibrationReading_eq hlegal]
  · rw [exec_phCalWait_of_noAck hack, senseTimeoutOp_of_none hnone]

/-- Settles O44: the touch start's program is the mode's, read after the touch start's own writes, which leave the mode, the
record and `snd` alone. -/
theorem touchStart : Obligations.TouchStart := by
  refine fun s => ⟨fun hover hmode => ?_, fun hover => exec_dbIdle_of_not_over (Nat.not_lt.2 hover),
    fun hover hmode => ⟨fun hnone => ?_, fun q i e hboop hbase hi he hvol hmax => ?_⟩⟩
  · exact (exec_dbIdle_of_over hover).trans (startBoop_of_mode_ge hmode)
  · exact (exec_dbIdle_of_over hover).trans (startBoop_of_none (s := beginTouch s) hmode hnone)
  · exact ((exec_dbIdle_of_over hover).trans (startBoop_of_some (s := beginTouch s) hmode hboop)).trans
      (sndStart_eq (s := beginTouch s) ⟨hbase, hi, he, hvol, hmax⟩)

/-- Settles O45: below `LONG_TOUCH` the duration fits its register; at it the event's writes come before its program. -/
theorem touchContinuesOrAdvancesTheMode : Obligations.TouchContinuesOrAdvancesTheMode := by
  refine fun s hover => ⟨fun hlt hlong => ⟨BitVec.ofNat 8 (s.touch.dur.toNat + 1), ?_, ?_⟩,
    fun hdur hpos hle i e hbase hi he hvol hmax => ⟨(modeAdvanced s).mode, modeAdvanced_mode hpos hle, ?_⟩⟩
  · rw [BitVec.toNat_ofNat]
    omega
  · exact (exec_dbTouching_of_over hover).trans (continueTouch_count (Nat.ne_of_lt hlt))
  · exact ((exec_dbTouching_of_over hover).trans (continueTouch_longTouch hdur)).trans
      (sndStart_eq (s := modeAdvanced s) ⟨hbase, hi, he, hvol, hmax⟩)

/-- Settles O47: R45 excludes the reserved state, and a legal record's programs can be started. -/
theorem debounceRunsOneRuleAndReturns : Obligations.DebounceRunsOneRuleAndReturns := by
  have hreturns : ∀ s t : State, exec (decodeDb s.touch.dbState) s = .next t →
      exec .phDebounce s = .next { t with phase := 0 } := fun s t h => by
    rw [exec_phDebounce, h, andThen_next]
    rfl
  refine ⟨hreturns, fun s hgood => ?_⟩
  simp only [State.good, Bool.and_eq_true, invariant_iff] at hgood
  obtain ⟨⟨⟨⟨hlegal, hinv⟩, -⟩, -⟩, -⟩ := hgood
  obtain ⟨t, ht⟩ := exec_db_answers hlegal hinv.mode_lt hinv.debouncer.dbState_ne
  exact ⟨t, ht, hreturns s t ht⟩

/-- Settles O48, by induction on the samples after the first one. -/
theorem longTouchAdvancesOncePerLongTouchSamples : Obligations.LongTouchAdvancesOncePerLongTouchSamples := by
  intro s L hgood _ hover hL
  simp only [State.good, Bool.and_eq_true, invariant_iff] at hgood
  obtain ⟨⟨⟨⟨hlegal, hinv⟩, -⟩, -⟩, -⟩ := hgood
  obtain ⟨u, hu, hfirst⟩ := touchedFor_one hlegal hinv.mode_lt hover
  obtain ⟨t, ht, hrun⟩ := hfirst.run hlegal hover (L - 1)
  rw [Nat.add_sub_cancel' hL] at hrun
  exact ⟨u, t, hu, ht, hrun.mode_eq, hrun.dur_eq, hrun.touched_eq, hrun.dbState_eq⟩

/-- Settles O49: the cycle's dispatcher row is the long touch's, and the next mode fits the register. -/
theorem modeChangesOnlyAtALongTouch : Obligations.ModeChangesOnlyAtALongTouch := by
  intro s t h hrst hne
  obtain ⟨hlegal, ⟨hrst', -⟩ | ⟨-, -, a, b, ha, -, rfl⟩⟩ := step_next_cases h
  · exact absurd (hrst.symm.trans hrst') (by decide)
  · have hmodes := modeCount_range hlegal
    obtain ⟨h7, hdb, hover, hdur, hmode, htouched, hdur0⟩ := ha.mode_change (by simpa using hne)
    refine ⟨h7, hdb, hover, hdur, ?_, by simpa using htouched, by simpa using hdur0⟩
    rw [popInput_mode, commitCycle_mode, hmode]
    exact modeAdvanced_mode (s := driveInput s (currentIn s)) hmodes.1 hmodes.2

/-- Settles O38: the clamped subtraction is the truncated one. -/
theorem readingIsCorrectedByTheBaseline : Obligations.ReadingIsCorrectedByTheBaseline := by
  refine fun s => ⟨fun hack => ⟨calibrated (inData (currentIn s)) s.touch.baseline, calibrated_toNat _ _,
    exec_phSenseWait_of_ack hack⟩, fun hack hnone => ?_⟩
  rw [exec_phSenseWait_of_noAck hack, senseTimeoutOp_of_none hnone]

/-- Settles O41: the gap's count does not wrap before 0, and the mean of ten readings fits the baseline. -/
theorem calibrationGapAndBaseline : Obligations.CalibrationGapAndBaseline := by
  refine ⟨fun s hzero => if_pos hzero, fun s hne => ⟨s.touch.calTimer - 1, ?_, if_neg hne⟩,
    fun s hlegal hsum => ⟨average s.params s.touch.calSum, average_toNat hlegal hsum, rfl⟩⟩
  bv_omega

/-- Settles O46: the release by the record's hold-off, and the count that reaches 0 from 1 alone. -/
theorem releaseAndHoldoff : Obligations.ReleaseAndHoldoff := by
  refine ⟨fun s hover hmax => ⟨fun hzero => ?_, fun hne => ⟨BitVec.ofNat 8 s.params.holdoffTicks, ?_, ?_⟩⟩,
    fun s hpos => ⟨s.touch.hold - 1, by bv_omega, ?_⟩⟩
  · rw [exec_dbTouching_of_not_over (Nat.not_lt.2 hover), releaseTouch, if_pos hzero]
  · rw [BitVec.toNat_ofNat]
    omega
  · rw [exec_dbTouching_of_not_over (Nat.not_lt.2 hover), releaseTouch, if_neg hne]
  · have hlast : s.touch.hold - 1 = 0 ↔ s.touch.hold = 1 := by bv_omega
    show execDbHoldoff s = _
    simp only [execDbHoldoff, hlast]

end Sys2Proof.Machine

/-! SUPPORT. The light buffer by its bytes: a canonical buffer is determined by what its addresses read as (10_state.md R42). -/

namespace Sys2Proof.Machine

theorem Memory.wfFrom_cons {lo a : Nat} {v : Byte} {rest : Memory} :
    Memory.wfFrom lo ((a, v) :: rest) = true ↔
      lo ≤ a ∧ a < 6 ∧ v ≠ unlistedByte ∧ Memory.wfFrom (a + 1) rest = true := by
  simp only [Memory.wfFrom, Bool.and_eq_true, decide_eq_true_eq, bne_iff_ne, and_assoc]

/-- An address outside a canonical buffer's range is not listed. -/
theorem Memory.read_outside {lo a : Nat} {m : Memory} (hm : Memory.wfFrom lo m = true) (ha : a < lo ∨ 6 ≤ a) :
    Memory.read m a = unlistedByte := by
  induction m generalizing lo with
  | nil => rfl
  | cons c rest ih =>
    obtain ⟨b, v⟩ := c
    obtain ⟨hlo, hb, -, hrest⟩ := Memory.wfFrom_cons.1 hm
    rw [Memory.read, if_neg (by omega), ih hrest (by omega)]

/-- Equal first addresses: a lower one would be listed in one buffer alone. -/
theorem Memory.le_head_of_read_eq {lo a b : Nat} {v w : Byte} {m m' : Memory}
    (hm : Memory.wfFrom lo ((a, v) :: m) = true) (hm' : Memory.wfFrom lo ((b, w) :: m') = true)
    (h : Memory.read ((a, v) :: m) a = Memory.read ((b, w) :: m') a) : b ≤ a := by
  obtain ⟨-, -, hv, -⟩ := Memory.wfFrom_cons.1 hm
  obtain ⟨-, hb, hw, hrest⟩ := Memory.wfFrom_cons.1 hm'
  by_contra hlt
  have hfrom : Memory.wfFrom b ((b, w) :: m') = true := Memory.wfFrom_cons.2 ⟨Nat.le_refl b, hb, hw, hrest⟩
  rw [Memory.read_outside hfrom (.inl (Nat.lt_of_not_le hlt)), Memory.read, if_pos rfl] at h
  exact hv h

theorem Memory.eq_of_read_eq {lo : Nat} {m m' : Memory} (hm : Memory.wfFrom lo m = true)
    (hm' : Memory.wfFrom lo m' = true) (h : ∀ a, Memory.read m a = Memory.read m' a) : m = m' := by
  induction m generalizing lo m' with
  | nil =>
    cases m' with
    | nil => rfl
    | cons c rest' =>
      obtain ⟨-, -, hw, -⟩ := Memory.wfFrom_cons.1 hm'
      exact absurd (h c.1) (by simpa [Memory.read] using Ne.symm hw)
  | cons c rest ih =>
    obtain ⟨a, v⟩ := c
    cases m' with
    | nil =>
      obtain ⟨-, -, hv, -⟩ := Memory.wfFrom_cons.1 hm
      exact absurd (h a) (by simpa [Memory.read] using hv)
    | cons c' rest' =>
      obtain ⟨b, w⟩ := c'
      obtain rfl : a = b := Nat.le_antisymm (Memory.le_head_of_read_eq hm' hm (h b).symm)
        (Memory.le_head_of_read_eq hm hm' (h a))
      obtain rfl : v = w := by simpa [Memory.read] using h a
      obtain ⟨-, -, -, hrest⟩ := Memory.wfFrom_cons.1 hm
      obtain ⟨-, -, -, hrest'⟩ := Memory.wfFrom_cons.1 hm'
      congr 1
      refine ih hrest hrest' fun k => ?_
      by_cases hk : a = k
      · rw [Memory.read_outside hrest (by omega), Memory.read_outside hrest' (by omega)]
      · simpa [Memory.read, hk] using h k

/-- RENDER's six writes stay inside the buffer (43_animation_engine.md R235). -/
theorem read_lightBytes_outside (o : ChannelOrder) (a b : Rgb) (m : Memory) {k : Nat} (hk : 6 ≤ k) :
    Memory.read (lightBytes o a b m) k = Memory.read m k := by
  obtain ⟨d, rfl⟩ := Nat.exists_eq_add_of_le' hk
  simp [read_lightBytes]

/-- RENDER's six writes leave nothing of the old buffer in it (43_animation_engine.md R235). -/
theorem read_lightBytes_congr (o : ChannelOrder) (a b : Rgb) (m m' : Memory) {k : Nat} (hk : k < 6) :
    Memory.read (lightBytes o a b m) k = Memory.read (lightBytes o a b m') k := by
  rw [read_lightBytes, read_lightBytes]
  interval_cases k <;> rfl

theorem lightBytes_congr (o : ChannelOrder) (a b : Rgb) {m m' : Memory} (hm : Memory.wf m = true)
    (hm' : Memory.wf m' = true) : lightBytes o a b m = lightBytes o a b m' := by
  have hwf := lightBytes_wf o a b m hm
  have hwf' := lightBytes_wf o a b m' hm'
  refine Memory.eq_of_read_eq hwf hwf' fun k => ?_
  rcases Nat.lt_or_ge k 6 with hk | hk
  · exact read_lightBytes_congr o a b m m' hk
  · rw [Memory.read_outside hwf (.inr hk), Memory.read_outside hwf' (.inr hk)]

end Sys2Proof.Machine

/-! SUPPORT. The triangle wave: its rising half, and the falling half as its mirror image (43_animation_engine.md R239). -/

namespace Sys2Proof.Machine

section
variable {p period : Nat}

theorem tri_of_lt_half (hp : p < period / 2) : tri p period = p * 255 / (period / 2 - 1) := by
  rw [tri, if_pos hp]

theorem tri_mirror (heven : period % 2 = 0) (hp : p < period) : tri (period - 1 - p) period = tri p period := by
  have hback : period - 1 - (period - 1 - p) = p := by omega
  rcases Nat.lt_or_ge p (period / 2) with h | h
  · rw [tri, tri, if_neg (by omega), if_pos h, hback]
  · rw [tri, tri, if_pos (by omega), if_neg (by omega)]

/-- No value passes 255, so the wave fits a byte: on the rise the phase is at most `half - 1`, and the fall mirrors it. -/
theorem tri_le (heven : period % 2 = 0) (hp : p < period) : tri p period ≤ 255 := by
  have hrise : ∀ q, q < period / 2 → tri q period ≤ 255 := fun q hq => by
    rw [tri_of_lt_half hq]
    exact Nat.div_le_of_le_mul (Nat.mul_le_mul_right 255 (by omega))
  rcases Nat.lt_or_ge p (period / 2) with h | h
  · exact hrise p h
  · rw [← tri_mirror heven hp]
    exact hrise _ (by omega)

theorem tri_zero (hperiod : 2 ≤ period) : tri 0 period = 0 := by
  rw [tri_of_lt_half (by omega), Nat.zero_mul, Nat.zero_div]

theorem tri_top (hperiod : 4 ≤ period) : tri (period / 2 - 1) period = 255 := by
  rw [tri_of_lt_half (by omega)]
  exact Nat.mul_div_cancel_left 255 (by omega)

theorem triByte_toNat (heven : period % 2 = 0) (hp : p < period) : (triByte p period).toNat = tri p period := by
  have hle := tri_le heven hp
  rw [triByte, BitVec.toNat_ofNat]
  exact Nat.mod_eq_of_lt (by omega)

end

end Sys2Proof.Machine

/-! SUPPORT. RENDER read forward: the state it leaves, and the colours of the default modes' behaviours
(43_animation_engine.md R232-R236, R240-R247). -/

namespace Sys2Proof.Machine

/-! ## What RENDER leaves -/

/-- The state after a render of `pair`, for a touched length of `n` frames (R234-R237). -/
def rendered (s : State) (n : Nat) (pair : HsvPair) : State :=
  { s with
    buf := lightBytes s.params.channelOrder (hsvToRgb s.params pair.left) (hsvToRgb s.params pair.right) s.buf
    touched := touchedAfterRender s n
    phase := 3 }

/-- A legal record has one entry per mode in both tables of the modes (00_scope.md R7). -/
theorem modeTables_length {p : Params} (h : p.legal = true) :
    p.modeTable.length = p.modeCount ∧ p.touchFrames.length = p.modeCount := by
  simp only [Params.legal, Params.modeLegal, Bool.and_eq_true, beq_iff_eq] at h
  obtain ⟨⟨-, ⟨⟨⟨-, hmodes⟩, -⟩, hframes⟩, -⟩, -⟩ := h
  exact ⟨hmodes, hframes⟩

theorem hueLegal_of_legal {p : Params} (h : p.legal = true) : p.hueLegal = true := by
  simp only [Params.legal, Bool.and_eq_true] at h
  obtain ⟨⟨⟨⟨-, hhue⟩, -⟩, -⟩, -⟩ := h
  exact hhue

theorem exec_phRender_of_legal {s : State} {m : Mode} {n : Nat} {pair : HsvPair} (hlegal : s.params.legal = true)
    (hmode : s.params.modeTable[s.mode.toNat]? = some m) (hframes : s.params.touchFrames[s.mode.toNat]? = some n)
    (hpair : behaviourAt (if s.touched then m.touched else m.idle) s.frame = some pair) :
    exec .phRender s = .next (rendered s n pair) := by
  obtain ⟨hlt, -⟩ := List.getElem?_eq_some_iff.1 hmode
  rw [(modeTables_length hlegal).1] at hlt
  exact execPhRender_eq_next.2 ⟨hueLegal_of_legal hlegal, hlt, m, n, pair, hmode, hframes, hpair, rfl⟩

theorem touchedAfterRender_iff {s : State} {n : Nat} :
    touchedAfterRender s n = true ↔ s.touched = true ∧ s.frame.toNat < n - 1 := by
  simp only [touchedAfterRender, Bool.and_eq_true, Bool.not_eq_true', decide_eq_false_iff_not, Nat.not_le]

/-- Two renders of equal operands write the same two colours (R238). -/
theorem execPhRender_buf_congr {s u s' u' : State} (hparams : s.params = u.params) (hmode : s.mode = u.mode)
    (hframe : s.frame = u.frame) (htouched : s.touched = u.touched) (hs : exec .phRender s = .next s')
    (hu : exec .phRender u = .next u') :
    ∃ o cl cr, s'.buf = lightBytes o cl cr s.buf ∧ u'.buf = lightBytes o cl cr u.buf := by
  obtain ⟨-, -, m, n, pair, hm, -, hp, rfl⟩ := execPhRender_eq_next.1 hs
  obtain ⟨-, -, m', n', pair', hm', -, hp', rfl⟩ := execPhRender_eq_next.1 hu
  rw [hparams, hmode, hm'] at hm
  cases hm
  rw [hframe, htouched, hp'] at hp
  cases hp
  exact ⟨_, _, _, by rw [hparams], rfl⟩

/-! ## The default record -/

theorem default_legal : Params.default.legal = true := by decide +kernel

/-- The buffer after a render of `pair` under the default record: green, red, blue of each light (R235). -/
def grbBytes (pair : HsvPair) (m : Memory) : Memory :=
  lightBytes ⟨.green, .red, .blue⟩ (hsvToRgb Params.default pair.left) (hsvToRgb Params.default pair.right) m

/-! ## Colours of the default table (40_color_model.md R146) -/

section
variable (v : Byte)

/-- At full saturation the value alone scales a channel (40_color_model.md R147, R149). -/
theorem shade_saturated (c : Byte) : shade c 255#8 v = scale8 c v := by rw [shade, desat_full]

theorem hsvToRgb_white (p : Params) (h : Byte) : hsvToRgb p ⟨h, 0, v⟩ = ⟨v, v, v⟩ := by simp [hsvToRgb]

theorem hsvToRgb_red : hsvToRgb Params.default ⟨0, 255, v⟩ = ⟨v, 0, 0⟩ := by
  have hramp : ramp Params.default 0#8 = ⟨255, 0, 0⟩ := by decide
  simp [hsvToRgb, hramp, shade_saturated]

theorem hsvToRgb_aqua : hsvToRgb Params.default ⟨128, 255, v⟩ = ⟨0, v, v⟩ := by
  have hramp : ramp Params.default 128#8 = ⟨0, 255, 255⟩ := by decide
  simp [hsvToRgb, hramp, shade_saturated]

end

/-! ## The behaviours in exact arithmetic -/

/-- The pair of two hues, taken modulo 256, at full saturation and one value. -/
def huePair (left right : Nat) (value : Byte) : HsvPair :=
  ⟨⟨BitVec.ofNat 8 left, 255, value⟩, ⟨BitVec.ofNat 8 right, 255, value⟩⟩

/-- The wrap of a hue is that of its byte. -/
theorem ofNat_and_255 (n : Nat) : BitVec.ofNat 8 (n &&& 255) = BitVec.ofNat 8 n := by
  apply BitVec.eq_of_toNat_eq
  rw [BitVec.toNat_ofNat, BitVec.toNat_ofNat, Nat.and_two_pow_sub_one_eq_mod n 8, Nat.mod_mod]

/-- Bit 2 of a frame tells the odd groups of four frames from the even ones. -/
theorem and_four_eq (n : Nat) : n &&& 4 = n / 4 % 2 * 4 :=
  (Nat.and_two_pow n 2).trans (congrArg (· * 4) (Nat.toNat_testBit n 2))

section
variable (f : Byte)

theorem behaviourAt_idle0 : behaviourAt .idle0 f = some (bothLights ⟨128, 255, triByte (f.toNat % 64) 64⟩) := by
  rw [behaviourAt, renderIdle0, Nat.and_two_pow_sub_one_eq_mod f.toNat 6]

theorem behaviourAt_touched0 : behaviourAt .touched0 f = some (bothLights (whiteWhen (f.toNat % 4 < 2))) := by
  have hbit : ((f.toNat >>> 1 &&& 1) == 0) = decide (f.toNat % 4 < 2) := by
    rw [Nat.shiftRight_eq_div_pow, Nat.and_one_is_mod, Bool.eq_iff_iff, beq_iff_eq, decide_eq_true_iff]
    omega
  rw [behaviourAt, renderTouched0, hbit]

theorem behaviourAt_idle1 : behaviourAt .idle1 f = some (huePair f.toNat (f.toNat + 128) 255) := by
  rw [behaviourAt, renderIdle1, huePair, ofNat_and_255, BitVec.ofNat_toNat, BitVec.setWidth_eq]

theorem behaviourAt_touched1 : behaviourAt .touched1 f = some (huePair (16 * f.toNat) (16 * f.toNat) 255) := by
  rw [behaviourAt, renderTouched1, huePair, bothLights, ofNat_and_255, Nat.shiftLeft_eq, Nat.mul_comm]

theorem behaviourAt_idle2 : behaviourAt .idle2 f =
    some ⟨⟨0, 255, triByte (f.toNat % 32) 32⟩, ⟨0, 255, triByte ((f.toNat + 16) % 32) 32⟩⟩ := by
  rw [behaviourAt, renderIdle2, Nat.and_two_pow_sub_one_eq_mod f.toNat 5, Nat.and_two_pow_sub_one_eq_mod _ 5]

theorem behaviourAt_touched2 :
    behaviourAt .touched2 f = some ⟨whiteWhen (f.toNat / 4 % 2 = 0), whiteWhen (f.toNat / 4 % 2 = 1)⟩ := by
  have heven : (f.toNat / 4 % 2 * 4 == 0) = decide (f.toNat / 4 % 2 = 0) := by
    rw [Bool.eq_iff_iff, beq_iff_eq, decide_eq_true_iff]
    omega
  have hodd : (f.toNat / 4 % 2 * 4 != 0) = decide (f.toNat / 4 % 2 = 1) := by
    rw [Bool.eq_iff_iff, bne_iff_ne, decide_eq_true_iff]
    omega
  rw [behaviourAt, renderTouched2, and_four_eq, heven, hodd]

theorem behaviourAt_idle3 : behaviourAt .idle3 f = some (huePair f.toNat f.toNat 64) := by
  rw [behaviourAt, renderIdle3, huePair, bothLights, BitVec.ofNat_toNat, BitVec.setWidth_eq]

theorem behaviourAt_touched3 : behaviourAt .touched3 f = some (huePair (4 * f.toNat) (4 * f.toNat + 128) 255) := by
  rw [behaviourAt, renderTouched3, huePair, ofNat_and_255, ofNat_and_255, Nat.shiftLeft_eq, Nat.mul_comm]

end

/-! ## The bytes of the default modes -/

section
variable (m : Memory) {j : Nat}

theorem read_grbBytes_aqua (v : Byte) (hj : j < 6) :
    Memory.read (grbBytes (bothLights ⟨128, 255, v⟩) m) j = if j = 1 ∨ j = 4 then 0 else v := by
  rw [grbBytes, bothLights, hsvToRgb_aqua, read_lightBytes]
  interval_cases j <;> rfl

theorem read_grbBytes_red (x y : Byte) (hj : j < 6) :
    Memory.read (grbBytes ⟨⟨0, 255, x⟩, ⟨0, 255, y⟩⟩ m) j = if j = 1 then x else if j = 4 then y else 0 := by
  rw [grbBytes, hsvToRgb_red, hsvToRgb_red, read_lightBytes]
  interval_cases j <;> rfl

theorem read_grbBytes_white (x y : Byte) (hj : j < 6) :
    Memory.read (grbBytes ⟨⟨0, 0, x⟩, ⟨0, 0, y⟩⟩ m) j = if j / 3 = 0 then x else y := by
  rw [grbBytes, hsvToRgb_white, hsvToRgb_white, read_lightBytes]
  interval_cases j <;> rfl

theorem read_grbBytes_whiteWhen (c d : Prop) [Decidable c] [Decidable d] (hj : j < 6) :
    (Memory.read (grbBytes ⟨whiteWhen c, whiteWhen d⟩ m) j).toNat =
      if j / 3 = 0 then if c then 255 else 0 else if d then 255 else 0 := by
  simp only [whiteWhen, read_grbBytes_white m _ _ hj, decide_eq_true_iff, apply_ite BitVec.toNat]
  rfl

end

theorem showsHues_of_grbBytes {t : State} {m : Memory} {left right : Nat} {value : Byte} (ht : t.params = Params.default)
    (hbuf : t.buf = grbBytes (huePair left right value) m) : t.showsHues left right value := by
  simp only [State.showsHues, ht, hbuf, grbBytes, read_lightBytes]
  exact ⟨rfl, rfl, rfl, rfl, rfl, rfl⟩

/-! ## A render of a default mode -/

section
variable {s : State} {i : BitVec 8} {b : Bool} {m : Mode}

/-- Under the default record a render shows the pair of its mode's behaviour. -/
theorem exec_phRender_default {pair : HsvPair} (hs : s.params = Params.default) (hmode : s.mode = i)
    (htouched : s.touched = b) (hm : defaultModeTable[i.toNat]? = some m)
    (hpair : behaviourAt (if b then m.touched else m.idle) s.frame = some pair) :
    ∃ t, exec .phRender s = .next t ∧ t.params = Params.default ∧ t.buf = grbBytes pair s.buf := by
  have hlegal : s.params.legal = true := hs ▸ default_legal
  have hentry : s.params.modeTable[s.mode.toNat]? = some m := by rw [hs, hmode]; exact hm
  obtain ⟨hlt, -⟩ := List.getElem?_eq_some_iff.1 hentry
  obtain ⟨hmodes, hframes⟩ := modeTables_length hlegal
  obtain ⟨n, hn⟩ : ∃ n, s.params.touchFrames[s.mode.toNat]? = some n := ⟨_, List.getElem?_eq_getElem (by omega)⟩
  exact ⟨_, exec_phRender_of_legal hlegal hentry hn (by rw [htouched]; exact hpair), hs, by rw [rendered, hs]; rfl⟩

theorem exec_phRender_hues {left right : Nat} {value : Byte} (hs : s.params = Params.default) (hmode : s.mode = i)
    (htouched : s.touched = b) (hm : defaultModeTable[i.toNat]? = some m)
    (hpair : behaviourAt (if b then m.touched else m.idle) s.frame = some (huePair left right value)) :
    ∃ t, exec .phRender s = .next t ∧ t.showsHues left right value := by
  obtain ⟨t, ht, hparams, hbuf⟩ := exec_phRender_default hs hmode htouched hm hpair
  exact ⟨t, ht, showsHues_of_grbBytes hparams hbuf⟩

/-- What holds of each of the six bytes of the pair holds of the buffer after the render. -/
theorem exec_phRender_bytes {pair : HsvPair} {byte : Nat → Nat} (hs : s.params = Params.default) (hmode : s.mode = i)
    (htouched : s.touched = b) (hm : defaultModeTable[i.toNat]? = some m)
    (hpair : behaviourAt (if b then m.touched else m.idle) s.frame = some pair)
    (hbyte : ∀ j, j < 6 → (Memory.read (grbBytes pair s.buf) j).toNat = byte j) :
    ∃ t, exec .phRender s = .next t ∧ ∀ j, j < 6 → (Memory.read t.buf j).toNat = byte j := by
  obtain ⟨t, ht, -, hbuf⟩ := exec_phRender_default hs hmode htouched hm hpair
  exact ⟨t, ht, hbuf ▸ hbyte⟩

end

end Sys2Proof.Machine

/-! SUPPORT. The obligations of 43_animation_engine.md. -/

namespace Sys2Proof.Machine

/-- Settles O53: the answered state is `rendered`, its bytes are those of the six writes. -/
theorem renderWritesBothLights : Obligations.RenderWritesBothLights := by
  refine ⟨fun s hhue hmode => ?_, fun s hhue => ?_, fun s m n pair hlegal hmode hframes hpair =>
    ⟨rendered s n pair, exec_phRender_of_legal hlegal hmode hframes hpair, ?_⟩⟩
  · exact (if_pos hhue).trans (if_neg (Nat.not_lt.2 hmode))
  · exact if_neg (by simp [hhue])
  · refine ⟨?_, ?_, ?_, ?_, ?_, ?_, fun a ha => read_lightBytes_outside _ _ _ _ ha, touchedAfterRender_iff, rfl⟩
    all_goals rw [rendered, read_lightBytes]; rfl

/-- Settles O54: the six bytes are a function of the operands, and canonical buffers have no others. -/
theorem renderIsIdempotent : Obligations.RenderIsIdempotent := by
  intro s u s' u' hparams hmode hframe htouched hs hu
  obtain ⟨o, cl, cr, hbuf, hbuf'⟩ := execPhRender_buf_congr hparams hmode hframe htouched hs hu
  rw [hbuf, hbuf']
  exact ⟨fun j hj => read_lightBytes_congr o cl cr s.buf u.buf hj, lightBytes_congr o cl cr⟩

/-- Settles O55: each behaviour in exact arithmetic, and the bytes of its colours. -/
theorem defaultTrianglesAndStrobes : Obligations.DefaultTrianglesAndStrobes := by
  refine fun s hs => ⟨fun hmode htouched => ?_, fun hmode htouched => ?_, fun hmode htouched => ?_,
    fun hmode htouched => ?_, fun hmode htouched => ?_, fun hmode htouched => ?_, fun hmode htouched => ?_,
    fun hmode htouched => ?_⟩
  · refine exec_phRender_bytes hs hmode htouched rfl (behaviourAt_idle0 _) ?_
    intro j hj
    rw [read_grbBytes_aqua _ _ hj, apply_ite BitVec.toNat, triByte_toNat (by decide) (Nat.mod_lt _ (by decide))]
    rfl
  · refine exec_phRender_bytes hs hmode htouched rfl (behaviourAt_touched0 _) ?_
    intro j hj
    simp only [bothLights, read_grbBytes_whiteWhen _ _ _ hj, ite_self]
  · exact exec_phRender_hues hs hmode htouched rfl (behaviourAt_idle1 _)
  · exact exec_phRender_hues hs hmode htouched rfl (behaviourAt_touched1 _)
  · refine exec_phRender_bytes hs hmode htouched rfl (behaviourAt_idle2 _) ?_
    intro j hj
    rw [read_grbBytes_red _ _ _ hj, apply_ite BitVec.toNat, apply_ite BitVec.toNat,
      triByte_toNat (by decide) (Nat.mod_lt _ (by decide)), triByte_toNat (by decide) (Nat.mod_lt _ (by decide))]
    rfl
  · refine exec_phRender_bytes hs hmode htouched rfl (behaviourAt_touched2 _) ?_
    intro j hj
    have hlight : j / 3 = 0 ∨ j / 3 = 1 := by omega
    rw [read_grbBytes_whiteWhen _ _ _ hj]
    rcases hlight with h | h <;> simp [h]
  · exact exec_phRender_hues hs hmode htouched rfl (behaviourAt_idle3 _)
  · exact exec_phRender_hues hs hmode htouched rfl (behaviourAt_touched3 _)

/-- Settles O56: the rise is the definition's own branch, the rest its mirror image. -/
theorem triangleWave : Obligations.TriangleWave := by
  intro p P heven hP hp
  have hzero := tri_zero (period := P) (by omega)
  have htop := tri_top hP
  refine ⟨(tri_mirror heven hp).symm, tri_le heven hp, tri_of_lt_half, hzero, htop, ?_, ?_⟩
  · rw [← tri_mirror heven (by omega), show P - 1 - P / 2 = P / 2 - 1 by omega, htop]
  · rw [← hzero, ← tri_mirror heven (show 0 < P by omega), Nat.sub_zero]

end Sys2Proof.Machine

/-! SUPPORT. The sound sequencer read forward: what a sound step, an advance and the entry of a step answer, case by
case (44_sound_sequencer.md R267-R272). -/

namespace Sys2Proof.Machine

/-! ## Exact values -/

/-- The glide is added as a signed number, and the frequency wraps at 16 bits (44_sound_sequencer.md R269). -/
theorem addGlide_toNat (f g : Half) : ((addGlide f g).toNat : Int) = ((f.toNat : Int) + g.toInt) % 65536 := by
  rw [addGlide, glideValue, BitVec.toNat_ofInt]
  exact Int.toNat_of_nonneg (Int.emod_nonneg _ (by decide))

/-- A step's countdown fits its register: it is at most the step's duration (44_sound_sequencer.md R267). -/
theorem countdown_toNat (p : Params) (d : Half) : (countdown p d).toNat = d.toNat / p.tickMs := by
  rw [countdown, BitVec.toNat_ofNat]
  exact Nat.mod_eq_of_lt ((Nat.div_le_self _ _).trans_lt d.isLt)

/-- The pointer and the step count are counted up by the wrapping addition of their register (00_scope.md R10). -/
theorem ofNat_toNat_succ {w : Nat} (x : BitVec w) : BitVec.ofNat w (x.toNat + 1) = x + 1 := by
  rw [BitVec.ofNat_add, BitVec.ofNat_toNat, BitVec.setWidth_eq]
  rfl

/-! ## The entry of a ROM index -/

/-- `RomRead(i)` answers `e` (20_memory.md R81, R82). -/
structure RomHolds (p : Params) (i : Nat) (e : Entry) : Prop where
  inRom : i < p.sndRomDepth
  entry : p.sndRom[i]? = some e

theorem RomHolds.withRomEntry {s : State} {i : Nat} {e : Entry} (h : RomHolds s.params i e) (k : Entry → Result) :
    withRomEntry s i k = k e :=
  withRomEntry_found k h.inRom h.entry

/-! ## The entry of a step (R267, R272) -/

section
variable {s : State} {f d g : Half} {v : Code2} {r : BitVec 14}

theorem exec_stepEntry_of_bound (hd : d ≠ 0) (hbound : s.snd.steps.toNat = s.params.sndMaxSteps) :
    exec (.stepEntry f d g v r) s =
      .next { s with snd := { s.snd with active := false, toneFreq := 0, toneVol := 0, err := true } } :=
  (execStepEntry_eq_next (g := g) (r := r)).2 (.inr (.inl ⟨hd, hbound, rfl⟩))

theorem exec_stepEntry_of_enters (hd : d ≠ 0) (hv : v ≠ 3) (hbound : s.snd.steps.toNat ≠ s.params.sndMaxSteps) :
    exec (.stepEntry f d g v r) s =
      .next { s with snd := ⟨true, s.snd.ptr, s.snd.steps + 1, countdown s.params d, f, f, v, s.snd.err⟩ } := by
  refine (execStepEntry_eq_next (g := g) (r := r)).2 (.inr (.inr ⟨hd, hbound, hv, ?_⟩))
  rw [driveVolume, loadStep, ofNat_toNat_succ]

end

/-! ## The advance (R270, R272) -/

section
variable {s : State} {e : Entry}

/-- At the ROM's last index the program stops with the pointer in place. -/
theorem sndAdvance_of_last (h : s.snd.ptr.toNat = s.params.sndRomDepth - 1) :
    sndAdvance s =
      .next { s with snd := { s.snd with active := false, toneFreq := 0, toneVol := 0, err := true } } :=
  if_pos h

/-- Before the last index the pointer moves to the next entry, which is entered. -/
theorem sndAdvance_of_next (h : RomHolds s.params (s.snd.ptr.toNat + 1) e) :
    sndAdvance s = enterEntry e { s with snd := { s.snd with ptr := s.snd.ptr + 1 } } := by
  have hin := h.inRom
  rw [sndAdvance, if_neg (by omega), ofNat_toNat_succ]
  exact RomHolds.withRomEntry h _

theorem sndAdvance_of_sentinel (h : RomHolds s.params (s.snd.ptr.toNat + 1) e) (he : isSentinel e = true) :
    sndAdvance s = .next { s with
      snd := { s.snd with active := false, ptr := s.snd.ptr + 1, toneFreq := 0, toneVol := 0 } } :=
  (sndAdvance_of_next h).trans (enterEntry_eq_next.2 (.inl ⟨he, rfl⟩))

theorem sndAdvance_of_bound (h : RomHolds s.params (s.snd.ptr.toNat + 1) e) (he : isSentinel e = false)
    (hbound : s.snd.steps.toNat = s.params.sndMaxSteps) :
    sndAdvance s = .next { s with
      snd := { s.snd with active := false, ptr := s.snd.ptr + 1, toneFreq := 0, toneVol := 0, err := true } } :=
  (sndAdvance_of_next h).trans (enterEntry_eq_next.2 (.inr (.inl ⟨he, hbound, rfl⟩)))

theorem sndAdvance_of_step (h : RomHolds s.params (s.snd.ptr.toNat + 1) e) (he : isSentinel e = false)
    (hvol : entryVol e ≠ 3) (hbound : s.snd.steps.toNat ≠ s.params.sndMaxSteps) :
    sndAdvance s = .next { s with
      snd := ⟨true, s.snd.ptr + 1, s.snd.steps + 1, countdown s.params (entryDur e), entryFreq e, entryFreq e,
        entryVol e, s.snd.err⟩ } := by
  refine (sndAdvance_of_next h).trans (enterEntry_eq_next.2 (.inr (.inr ⟨he, hbound, hvol, ?_⟩)))
  rw [driveVolume, loadStep, ofNat_toNat_succ]

end

/-! ## The sound step (R268, R269) -/

/-- A program is active and `e` is its current entry (44_sound_sequencer.md R261, R269). -/
structure Plays (s : State) (e : Entry) : Prop where
  active : s.snd.active = true
  rom : RomHolds s.params s.snd.ptr.toNat e

/-- The state of an advance: the countdown is used up, and the last glide may have been applied. -/
def usedUp (s : State) (freq tone : Half) : State :=
  { s with snd := { s.snd with cnt := 0, freq := freq, toneFreq := tone } }

/-- SND_STEP without an active program (R268). -/
theorem exec_phSndStep_of_inactive {s : State} (h : s.snd.active = false) :
    exec .phSndStep s = .next { s with phase := 2 } := by
  show execPhSndStep s = _
  rw [execPhSndStep, h]
  rfl

theorem exec_phSndStep_of_active {s : State} (h : s.snd.active = true) :
    exec .phSndStep s = andThen (sndStep s) fun t => .next (setPhase t 2) := by
  show execPhSndStep s = _
  rw [execPhSndStep, if_pos h]

/-- A pointer past the ROM is a model fault (20_memory.md R82). -/
theorem exec_phSndStep_of_pastRom {s : State} (h : s.snd.active = true)
    (hptr : s.params.sndRomDepth ≤ s.snd.ptr.toNat) : exec .phSndStep s = .fault .romIndex := by
  rw [exec_phSndStep_of_active h, sndStep, withRomEntry, if_neg (Nat.not_lt.2 hptr), andThen_fault]

namespace Plays
variable {s : State} {e : Entry}

theorem sndStep_eq (h : Plays s e) :
    sndStep s =
      if s.snd.cnt = 0 then sndAdvance s
      else if (glideAndCount e s).snd.cnt = 0 then sndAdvance (glideAndCount e s)
      else .next (glideAndCount e s) :=
  h.rom.withRomEntry _

/-- With a countdown of at least 2 the step stays current (R269). -/
theorem exec_of_running (h : Plays s e) (hcnt : 2 ≤ s.snd.cnt.toNat) :
    exec .phSndStep s = .next (setPhase (glideAndCount e s) 2) := by
  have hrun : s.snd.cnt ≠ 0 := by bv_omega
  have hmore : (glideAndCount e s).snd.cnt ≠ 0 := by
    rw [glideAndCount_snd]
    bv_omega
  rw [exec_phSndStep_of_active h.active, h.sndStep_eq, if_neg hrun, if_neg hmore, andThen_next]

/-- With a countdown of 0 the program advances at once, with a countdown of 1 after a glide (R269). -/
theorem exec_of_usedUp (h : Plays s e) (hcnt : s.snd.cnt.toNat ≤ 1) :
    ∃ f tone : Half,
      (f.toNat : Int) = ((s.snd.freq.toNat : Int) + s.snd.cnt.toNat * (entryGlide e).toInt) % 65536 ∧
      exec .phSndStep s = andThen (sndAdvance (usedUp s f tone)) fun t => .next (setPhase t 2) := by
  rw [exec_phSndStep_of_active h.active, h.sndStep_eq]
  by_cases hzero : s.snd.cnt = 0
  · refine ⟨s.snd.freq, s.snd.toneFreq, ?_, ?_⟩
    · have hfreq := s.snd.freq.isLt
      have hcount : s.snd.cnt.toNat = 0 := by rw [hzero]; rfl
      rw [hcount]
      omega
    · rw [if_pos hzero, usedUp, ← hzero]
  · have hone : s.snd.cnt = 1 := by bv_omega
    have hlast : (glideAndCount e s).snd.cnt = 0 := by simp [hone]
    refine ⟨addGlide s.snd.freq (entryGlide e), addGlide s.snd.freq (entryGlide e), ?_, ?_⟩
    · simp [addGlide_toNat, hone]
    · rw [if_neg hzero, if_pos hlast, usedUp, ← hlast]
      rfl

end Plays

end Sys2Proof.Machine

/-! SUPPORT. A step for as long as it is current, and the source's program (44_sound_sequencer.md R269, R275). -/

namespace Sys2Proof.Machine

/-! ## Repeated performance -/

theorem execTimes_add (i : Instr) (m n : Nat) (s : State) :
    execTimes i (m + n) s = andThen (execTimes i m s) (execTimes i n) := by
  induction m generalizing s with
  | zero => rw [Nat.zero_add]; rfl
  | succ m ih =>
    rw [Nat.add_right_comm]
    show andThen (exec i s) (execTimes i (m + n)) = andThen (andThen (exec i s) (execTimes i m)) (execTimes i n)
    cases exec i s with
    | next t => exact ih t
    | fault f => rfl
    | refused q => rfl

@[simp] theorem execTimes_one (i : Instr) (s : State) : execTimes i 1 s = exec i s := by
  show andThen (exec i s) .next = exec i s
  cases exec i s <;> rfl

/-! ## A running countdown (R269) -/

/-- `t` plays the same entry `e` as `s`, `n` sound steps later (R269). -/
structure CurrentFor (e : Entry) (s : State) (n : Nat) (t : State) : Prop where
  plays : Plays t e
  params_eq : t.params = s.params
  ptr_eq : t.snd.ptr = s.snd.ptr
  steps_eq : t.snd.steps = s.snd.steps
  toneVol_eq : t.snd.toneVol = s.snd.toneVol
  cnt_eq : t.snd.cnt.toNat = s.snd.cnt.toNat - n
  freq_eq : (t.snd.freq.toNat : Int) = ((s.snd.freq.toNat : Int) + n * (entryGlide e).toInt) % 65536

theorem Plays.currentFor_zero {s : State} {e : Entry} (h : Plays s e) : CurrentFor e s 0 s := by
  refine ⟨h, rfl, rfl, rfl, rfl, rfl, ?_⟩
  have hfreq := s.snd.freq.isLt
  omega

/-- One more sound step: the frequency glides once and the countdown counts (R269). -/
theorem CurrentFor.next {e : Entry} {s t : State} {n : Nat} (h : CurrentFor e s n t) (hn : n + 1 < s.snd.cnt.toNat) :
    ∃ u, exec .phSndStep t = .next u ∧ CurrentFor e s (n + 1) u := by
  have hcnt := h.cnt_eq
  refine ⟨_, h.plays.exec_of_running (by omega), ⟨h.plays.active, h.plays.rom⟩, h.params_eq, h.ptr_eq, h.steps_eq,
    h.toneVol_eq, ?_, ?_⟩
  · rw [setPhase_snd, glideAndCount_snd]
    bv_omega
  · rw [setPhase_snd, glideAndCount_snd, addGlide_toNat, h.freq_eq, Int.emod_add_emod]
    congr 1
    push_cast
    ring

theorem Plays.currentFor {s : State} {e : Entry} (h : Plays s e) {n : Nat} (hn : n < s.snd.cnt.toNat) :
    ∃ t, execTimes .phSndStep n s = .next t ∧ CurrentFor e s n t := by
  induction n with
  | zero => exact ⟨s, rfl, h.currentFor_zero⟩
  | succ n ih =>
    obtain ⟨t, ht, hcurrent⟩ := ih (by omega)
    obtain ⟨u, hu, hnext⟩ := hcurrent.next hn
    exact ⟨u, by rw [execTimes_add, ht, andThen_next, execTimes_one, hu], hnext⟩

/-! ## The source's program (R275) -/

/-- Entry `k` of the default ROM holds `e`, a step of 5 ticks without a reserved volume
(44_sound_sequencer.md R262). -/
structure FiveTickStep (k : Nat) (e : Entry) : Prop where
  rom : RomHolds Params.default k e
  step : isSentinel e = false
  volume : entryVol e ≠ 3
  ticks : (countdown Params.default (entryDur e)).toNat = 5

theorem exists_fiveTickStep {k : Nat} (hk : k < 3) : ∃ e, FiveTickStep k e := by
  interval_cases k
  all_goals exact ⟨_, ⟨by decide, rfl⟩, by decide, by decide, by decide⟩

/-- Entry 3 ends the source's program (R262). -/
theorem romHolds_sentinel : RomHolds Params.default 3 0 := ⟨by decide, rfl⟩

/-- Entry `k` of the source's program has just been entered under the default record (R267). -/
structure SourceStepEntered (k : Nat) (s : State) : Prop where
  params_eq : s.params = Params.default
  active : s.snd.active = true
  ptr_eq : s.snd.ptr.toNat = k
  steps_eq : s.snd.steps.toNat = k + 1
  cnt_eq : s.snd.cnt.toNat = 5

/-- The start enters entry 0, whatever the sequencer did before (R266). -/
theorem sndStart_sourceProgram {s : State} (h : s.params = Params.default) :
    ∃ u, sndStart 0 s = .next u ∧ SourceStepEntered 0 u := by
  obtain ⟨e, he⟩ := exists_fiveTickStep (k := 0) (by decide)
  have hbegins : ProgramBegins s.params 0 0 e := by
    rw [h]
    exact ⟨rfl, he.rom.inRom, he.rom.entry, .inr he.volume, by decide⟩
  refine ⟨_, sndStart_eq hbegins, ?_⟩
  have hsnd : soundAfterStart s 0 e =
      ⟨true, 0, 1, countdown Params.default (entryDur e), entryFreq e, entryFreq e, entryVol e, s.snd.err⟩ := by
    rw [soundAfterStart, if_neg (by simp [he.step]), h]
    rfl
  rw [hsnd]
  exact ⟨h, rfl, rfl, rfl, he.ticks⟩

namespace SourceStepEntered
variable {k : Nat} {s : State}

theorem plays (h : SourceStepEntered k s) {e : Entry} (he : FiveTickStep k e) : Plays s e :=
  ⟨h.active, by rw [h.params_eq, h.ptr_eq]; exact he.rom⟩

/-- For 4 sound steps the entry stays current (R269). -/
theorem current (h : SourceStepEntered k s) (hk : k < 3) {n : Nat} (hn : n < 5) :
    ∃ e t, execTimes .phSndStep n s = .next t ∧ CurrentFor e s n t := by
  obtain ⟨e, he⟩ := exists_fiveTickStep hk
  exact ⟨e, (h.plays he).currentFor (by rwa [h.cnt_eq])⟩

/-- The fifth sound step advances from a used-up countdown (R269). -/
theorem fifth (h : SourceStepEntered k s) (hk : k < 3) :
    ∃ t, execTimes .phSndStep 5 s = andThen (sndAdvance t) (fun u => .next (setPhase u 2)) ∧
      t.params = Params.default ∧ t.snd.ptr.toNat = k ∧ t.snd.steps.toNat = k + 1 := by
  obtain ⟨e, t, ht, hcurrent⟩ := h.current hk (n := 4) (by decide)
  have hcnt := hcurrent.cnt_eq
  rw [h.cnt_eq] at hcnt
  obtain ⟨f, tone, -, hadvance⟩ := hcurrent.plays.exec_of_usedUp (by omega)
  refine ⟨usedUp t f tone, ?_, hcurrent.params_eq.trans h.params_eq, ?_, ?_⟩
  · rw [execTimes_add _ 4 1, ht, andThen_next, execTimes_one, hadvance]
  · rw [← h.ptr_eq, ← hcurrent.ptr_eq]
    rfl
  · rw [← h.steps_eq, ← hcurrent.steps_eq]
    rfl

/-- The fifth sound step enters the next entry (R270). -/
theorem next (h : SourceStepEntered k s) (hk : k + 1 < 3) :
    ∃ t, execTimes .phSndStep 5 s = .next t ∧ SourceStepEntered (k + 1) t := by
  obtain ⟨t, ht, hparams, hptr, hsteps⟩ := h.fifth (by omega)
  obtain ⟨e, he⟩ := exists_fiveTickStep hk
  have hmax : t.params.sndMaxSteps = 255 := by rw [hparams]; rfl
  have hrom : RomHolds t.params (t.snd.ptr.toNat + 1) e := by rw [hparams, hptr]; exact he.rom
  rw [ht, sndAdvance_of_step hrom he.step he.volume (by omega), andThen_next]
  refine ⟨_, rfl, hparams, rfl, ?_, ?_, ?_⟩
  · show (t.snd.ptr + 1).toNat = _
    bv_omega
  · show (t.snd.steps + 1).toNat = _
    bv_omega
  · show (countdown t.params _).toNat = _
    rw [hparams, he.ticks]

/-- The fifth sound step of the last entry meets the sentinel (R271). -/
theorem last (h : SourceStepEntered 2 s) :
    ∃ t, execTimes .phSndStep 5 s = .next t ∧ t.snd.active = false ∧ t.snd.ptr.toNat = 3 := by
  obtain ⟨t, ht, hparams, hptr, -⟩ := h.fifth (by decide)
  have hrom : RomHolds t.params (t.snd.ptr.toNat + 1) 0 := by rw [hparams, hptr]; exact romHolds_sentinel
  rw [ht, sndAdvance_of_sentinel hrom (by decide), andThen_next]
  refine ⟨_, rfl, rfl, ?_⟩
  show (t.snd.ptr + 1).toNat = _
  bv_omega

/-- From the start, entry `k` is entered after `5 * k` sound steps (R275). -/
theorem after (h : SourceStepEntered 0 s) (hk : k < 3) :
    ∃ t, execTimes .phSndStep (5 * k) s = .next t ∧ SourceStepEntered k t := by
  induction k with
  | zero => exact ⟨s, rfl, h⟩
  | succ k ih =>
    obtain ⟨t, ht, hentered⟩ := ih (by omega)
    obtain ⟨u, hu, hnext⟩ := hentered.next hk
    exact ⟨u, by rw [Nat.mul_succ, execTimes_add, ht, andThen_next, hu], hnext⟩

end SourceStepEntered

end Sys2Proof.Machine

/-! SUPPORT. The obligations of 44_sound_sequencer.md. -/

namespace Sys2Proof.Machine

/-- Settles O32: the row is SndSilence. -/
theorem sentinelSilences : Obligations.SentinelSilences := fun _ _ _ _ _ => rfl

/-- Settles O33: the step bound is tested before the step is loaded, and below it the count fits its register. -/
theorem stepEntryEntersOrHitsTheBound : Obligations.StepEntryEntersOrHitsTheBound := by
  refine fun s f d g v r hd hv hle hmax => ⟨exec_stepEntry_of_bound hd, fun hbound =>
    ⟨countdown s.params d, s.snd.steps + 1, countdown_toNat _ _, ?_, exec_stepEntry_of_enters hd hv hbound⟩⟩
  bv_omega

/-- Settles O34: the three ways in which SND_STEP does not advance. -/
theorem soundStepGlides : Obligations.SoundStepGlides := by
  refine ⟨fun s => exec_phSndStep_of_inactive, fun s e hactive hin hentry hcnt => ?_,
    fun s => exec_phSndStep_of_pastRom⟩
  have hplays : Plays s e := ⟨hactive, hin, hentry⟩
  refine ⟨addGlide s.snd.freq (entryGlide e), BitVec.ofNat 16 (s.snd.cnt.toNat - 1), addGlide_toNat _ _, ?_,
    hplays.exec_of_running hcnt⟩
  bv_omega

/-- Settles O35: the advance from the used-up countdown, by what the next entry is. -/
theorem soundStepAdvances : Obligations.SoundStepAdvances := by
  intro s e hactive hin _ hentry hcnt
  have hplays : Plays s e := ⟨hactive, hin, hentry⟩
  obtain ⟨f, tone, hf, hadvance⟩ := hplays.exec_of_usedUp hcnt
  refine ⟨f, hf, fun hlast => ?_, fun e' hin' hentry' => ?_⟩
  · rw [hadvance, sndAdvance_of_last (s := usedUp s f tone) hlast]
    rfl
  · have hnext : RomHolds (usedUp s f tone).params ((usedUp s f tone).snd.ptr.toNat + 1) e' := ⟨hin', hentry'⟩
    refine ⟨fun hsentinel => ?_, fun hstep hbound => ?_, fun hstep hvol hbound =>
      ⟨countdown s.params (entryDur e'), countdown_toNat _ _, ?_⟩⟩
    · rw [hadvance, sndAdvance_of_sentinel hnext hsentinel]
      rfl
    · rw [hadvance, sndAdvance_of_bound hnext hstep hbound]
      rfl
    · rw [hadvance, sndAdvance_of_step hnext hstep hvol hbound]
      rfl

/-- Settles O36, by induction on the number of sound steps. -/
theorem stepIsCurrentForItsCountdown : Obligations.StepIsCurrentForItsCountdown := by
  intro n s e hactive hin hentry hn
  have hplays : Plays s e := ⟨hactive, hin, hentry⟩
  obtain ⟨t, ht, hcurrent⟩ := hplays.currentFor hn
  exact ⟨t, ht, hcurrent.plays.active, hcurrent.ptr_eq, hcurrent.toneVol_eq, hcurrent.cnt_eq, hcurrent.freq_eq⟩

/-- Settles O37: `n` sound steps are the `n / 5` whole entries and `n % 5` sound steps of the one entered then. -/
theorem sourceProgramTakesFifteenTicks : Obligations.SourceProgramTakesFifteenTicks := by
  intro s hs
  obtain ⟨u, hu, hstart⟩ := sndStart_sourceProgram hs
  refine ⟨u, hu, fun n hn => ?_⟩
  by_cases hend : n = 15
  · subst hend
    obtain ⟨t, ht, hlast⟩ := hstart.after (k := 2) (by decide)
    obtain ⟨v, hv, hactive, hptr⟩ := hlast.last
    refine ⟨v, ?_, hactive, hptr, fun h => absurd h (by decide)⟩
    rw [execTimes_add _ (5 * 2) 5, ht, andThen_next, hv]
  · have hk : n / 5 < 3 := by omega
    obtain ⟨t, ht, hentered⟩ := hstart.after hk
    obtain ⟨e, v, hv, hcurrent⟩ := hentered.current hk (Nat.mod_lt n (by decide))
    refine ⟨v, ?_, ?_, ?_, fun _ => ?_⟩
    · rw [← Nat.div_add_mod n 5, execTimes_add, ht, andThen_next, hv]
    · rw [hcurrent.plays.active, decide_eq_true (by omega)]
    · rw [hcurrent.ptr_eq, hentered.ptr_eq]
    · rw [hcurrent.cnt_eq, hentered.cnt_eq]

end Sys2Proof.Machine

/-! SUPPORT. Who writes the frame counter and the debouncer's state, and which rows lead to SND_STEP
(45_tick_dispatcher.md R291, R297, R306). -/

namespace Sys2Proof.Machine

/-! ## The frame counter (R306) -/

/-- Of the debouncer's rows a touch start alone writes the frame counter, to 0 (42_touch_debouncer.md R207). -/
theorem DebouncerRow.frame {c : Code2} {s t : State} (h : DebouncerRow s c t) :
    t.frame = if c = 0 ∧ s.params.touchThreshold < s.touch.senseVal.toNat then 0 else s.frame := by
  simp only [← overThreshold_iff]
  cases h with
  | quiet hover => simp [hover]
  | touchStart hover => simp [hover]
  | release => simp
  | _ => rfl

/-- Of the dispatcher's rows FRAME_INC and a touch start alone write the frame counter (R297, R306). -/
theorem PhaseRow.frame {c : PhaseCode} {s t : State} (h : PhaseRow s c t) :
    t.frame = if c = 5 then s.frame + 1
      else if c = 7 ∧ s.touch.dbState = 0 ∧ s.params.touchThreshold < s.touch.senseVal.toNat then 0
      else s.frame := by
  cases h with
  | frameInc => exact ofNat_toNat_succ s.frame
  | debounce hrow => simpa using hrow.frame
  | senseHold _ => exact senseTimeoutOp_field State.frame s (fun _ _ => rfl) abandonReading_frame
  | calHold _ => exact senseTimeoutOp_field State.frame s (fun _ _ => rfl) (calibrationReading_frame _)
  | calReading _ => exact calibrationReading_frame _ s
  | _ => rfl

/-! ## The debouncer's state -/

@[simp] theorem calibrationReading_dbState (raw : Half) (s : State) :
    (calibrationReading raw s).touch.dbState = s.touch.dbState := by unfold calibrationReading; split <;> rfl

/-- DEBOUNCE alone writes the debouncer's state (42_touch_debouncer.md R206). -/
theorem PhaseRow.dbState {c : PhaseCode} {s t : State} (h : PhaseRow s c t) (h7 : c ≠ 7) :
    t.touch.dbState = s.touch.dbState := by
  cases h with
  | debounce => exact absurd rfl h7
  | senseHold _ => exact senseTimeoutOp_field (·.touch.dbState) s (fun _ _ => rfl) fun _ => rfl
  | calHold _ => exact senseTimeoutOp_field (·.touch.dbState) s (fun _ _ => rfl) (calibrationReading_dbState _)
  | calReading _ => exact calibrationReading_dbState _ s
  | _ => rfl

/-! ## The phase that follows -/

/-- A request cycle without an ack stays in its phase, or goes on to the one its expiry leads to (42_touch_debouncer.md
R212). -/
theorem senseTimeoutOp_phase_ne {s : State} {expire : State → State} {c : PhaseCode} (hs : s.phase ≠ c)
    (hexpire : ∀ u, (expire u).phase ≠ c) : (senseTimeoutOp s expire).phase ≠ c := by
  rcases senseTimeoutOp_cases s expire with ⟨-, h⟩ | ⟨n, -, -, h⟩ | ⟨n, -, -, h⟩ <;> rw [h]
  · exact hs
  · exact hexpire _
  · exact hs

/-- SND_STEP follows IDLE alone (R291). -/
theorem PhaseRow.phase_ne_sndStep {c : PhaseCode} {s t : State} (h : PhaseRow s c t) (hphase : s.phase = c)
    (hc : c ≠ 0) : t.phase ≠ 1 := by
  have hcal : ∀ raw u, (calibrationReading raw u).phase ≠ 1 := fun raw u => by
    rcases calibrationReading_phase raw u with h | h <;> rw [h] <;> decide
  cases h with
  | idle => exact absurd rfl hc
  | accept => exact absurd rfl hc
  | txBusy => rw [hphase]; decide
  | gapCount => rw [hphase]; decide
  | frameInc => dsimp only; split <;> decide
  | senseHold => exact senseTimeoutOp_phase_ne (by rw [hphase]; decide) fun u => by simp
  | calReading => exact hcal _ _
  | calHold => exact senseTimeoutOp_phase_ne (by rw [hphase]; decide) (hcal _)
  | _ => simp

end Sys2Proof.Machine

/-! SUPPORT. A tick read forward: the cycle that accepts it, and the cycle that drops it (45_tick_dispatcher.md R291,
R292). -/

namespace Sys2Proof.Machine

/-! ## A tick in IDLE (R291) -/

/-- A cycle whose vector is a tick's is a TICK. -/
theorem step_driveInput_tick (s : State) (ack : Bool) (d : Half) :
    step (driveInput s (inputVector false true ack d)) = exec (.tick ack d) s := by
  rw [step, fetch, show currentIn (driveInput s (inputVector false true ack d)) = inputVector false true ack d from rfl,
    decodeIn_inputVector]
  rfl

/-- A cycle in IDLE with a tick and no reset leads to SND_STEP and writes nothing else: the serializer is idle (R291). -/
theorem step_of_acceptedTick {s : State} (hlegal : s.params.legal = true) (hinv : s.invariant = true)
    (hphase : s.phase = 0) (htick : inTick (currentIn s) = true) (hrst : inRst (currentIn s) = false) :
    step s = .next { s with phase := 1, inputs := s.inputs.tail } := by
  have hidle : s.tx.phase = 0 := (invariant_iff.1 hinv).tx_phase_eq_zero (by rw [hphase]; decide)
  have haccept := exec_phIdle_of_tick (s := driveInput s (currentIn s)) htick
  have hrow : exec (decodeTxp s.tx.phase) (driveInput s (currentIn s)) = .next (driveInput s (currentIn s)) := by
    rw [hidle]
    rfl
  have hflag : busy s = false := by simp [busy, hphase]
  rw [step_of_rows hlegal hinv hrst (by rw [hphase]; exact haccept) hrow, if_pos hidle, hflag, Bool.and_false, Bool.or_false]
  rfl

/-! ## A tick outside IDLE (R292) -/

theorem busy_iff {s : State} : busy s = true ↔ 1 ≤ s.phase.toNat ∧ s.phase.toNat ≤ 7 := by
  simp [busy]

/-- Outside IDLE no row reads the tick: two vectors with the same ack and the same reading drive it alike. -/
theorem exec_ph_driveInput_of_sameAck {c : PhaseCode} {v w : InVec} (hc : c ≠ 0) (hack : inAck v = inAck w)
    (hdata : inData v = inData w) (s : State) :
    exec (decodePh c) (driveInput s v) =
      andThen (exec (decodePh c) (driveInput s w)) fun t => .next (driveInput t v) := by
  by_cases h6 : c = 6
  · subst h6
    cases hw : inAck w with
    | false => exact exec_phSenseWait_driveInput (hack.trans hw) hw s
    | true =>
      show exec .phSenseWait _ = andThen (exec .phSenseWait _) _
      rw [exec_phSenseWait_of_ack (s := driveInput s v) (hack.trans hw), exec_phSenseWait_of_ack (s := driveInput s w) hw,
        show inData (currentIn (driveInput s v)) = inData (currentIn (driveInput s w)) from hdata]
      rfl
  by_cases h8 : c = 8
  · subst h8
    cases hw : inAck w with
    | false => exact exec_phCalWait_driveInput (hack.trans hw) hw s
    | true =>
      show exec .phCalWait _ = andThen (exec .phCalWait _) _
      rw [exec_phCalWait_of_ack (s := driveInput s v) (hack.trans hw), exec_phCalWait_of_ack (s := driveInput s w) hw,
        show inData (currentIn (driveInput s v)) = inData (currentIn (driveInput s w)) from hdata, andThen_next,
        ← calibrationReading_driveInput]
      rfl
  · exact exec_ph_inputBlind hc h6 h8 (driveInput s w) v

theorem andThen_assoc (r : Result) (f g : State → Result) :
    andThen (andThen r f) g = andThen r fun t => andThen (f t) g := by
  cases r <;> rfl

/-- Outside IDLE two vectors with the same ack and the same reading give the same cycle (R292). -/
theorem runCycle_congr_of_sameAck {s : State} {v w : InVec} (hphase : s.phase ≠ 0) (hack : inAck v = inAck w)
    (hdata : inData v = inData w) : runCycle v s = runCycle w s := by
  have hdisp := (dispatcherOp_eq_exec (driveInput s v)).trans (exec_ph_driveInput_of_sameAck hphase hack hdata s)
  have hser := (serializerOp_eq_exec (driveInput s v)).trans (exec_txp_inputBlind s.tx.phase (driveInput s w) v)
  rw [runCycle, runCycle, bothOps, bothOps, hdisp, hser, dispatcherOp_eq_exec, serializerOp_eq_exec, driveInput_phase,
    driveInput_tx]
  simp only [andThen_assoc, andThen_next, popInput_commitCycle_driveInput s _ _ v w]

end Sys2Proof.Machine

/-! SUPPORT. The rows of SND_STEP and RENDER answer under a legal record: a sound pointer inside a program never meets the
reserved volume or the ROM's end (44_sound_sequencer.md R263, R264, R272), and every mode has a behaviour at every frame
(43_animation_engine.md R248). -/

namespace Sys2Proof.Machine

/-! ## SND_STEP -/

/-- From the base up to the pointer every entry is a step (44_sound_sequencer.md R263). -/
theorem insideProgram_iff {p : Params} {ptr base : Nat} : insideProgram p ptr base = true ↔
    base ≤ ptr ∧ ∀ (j : Nat) (e : Entry), base ≤ j → j ≤ ptr → p.sndRom[j]? = some e → entryDur e ≠ 0 := by
  simp only [insideProgram, Bool.and_eq_true, decide_eq_true_eq, List.all_eq_true, Bool.not_eq_true',
    Bool.eq_false_iff, ne_eq, isSentinel_iff, List.mem_iff_getElem?, List.getElem?_take, List.getElem?_drop]
  refine and_congr_right fun hbase => ⟨fun h j e hj hle he => ?_, fun h e ⟨k, hk⟩ => ?_⟩
  · obtain ⟨k, rfl⟩ := Nat.exists_eq_add_of_le hj
    exact h e ⟨k, by rw [if_pos (by omega), he]⟩
  · split at hk
    next hlt => exact h (base + k) e (Nat.le_add_right _ _) (by omega) hk
    next => cases hk

theorem soundSafe_iff {s : State} : soundSafe s = true ↔ s.snd.ptr.toNat < s.params.sndRomDepth ∧
    (s.snd.active = true → ∃ b ∈ s.params.programBase, insideProgram s.params s.snd.ptr.toNat b = true) := by
  simp only [soundSafe, Bool.and_eq_true, decide_eq_true_eq, Bool.or_eq_true, Bool.not_eq_true', List.any_eq_true]
  cases s.snd.active <;> simp

/-- A legal record's ROM holds an entry at every index below its depth (00_scope.md R7). -/
theorem exists_romHolds {p : Params} (h : p.legal = true) {i : Nat} (hi : i < p.sndRomDepth) : ∃ e, RomHolds p i e :=
  ⟨_, hi, List.getElem?_eq_getElem ((programsLegal h).rom_length ▸ hi)⟩

/-- An advance from inside a program answers: it stops at the ROM's last index, and the record check has looked at every
entry that is entered (44_sound_sequencer.md R264, R270, R272). -/
theorem sndAdvance_answers {s : State} {b : Nat} (hlegal : s.params.legal = true)
    (hptr : s.snd.ptr.toNat < s.params.sndRomDepth) (hb : b ∈ s.params.programBase)
    (hinside : insideProgram s.params s.snd.ptr.toNat b = true) : ∃ t, sndAdvance s = .next t := by
  by_cases hlast : s.snd.ptr.toNat = s.params.sndRomDepth - 1
  · exact ⟨_, sndAdvance_of_last hlast⟩
  · obtain ⟨e, hnext⟩ := exists_romHolds hlegal (i := s.snd.ptr.toNat + 1) (by omega)
    cases he : isSentinel e with
    | true => exact ⟨_, sndAdvance_of_sentinel hnext he⟩
    | false =>
      by_cases hbound : s.snd.steps.toNat = s.params.sndMaxSteps
      · exact ⟨_, sndAdvance_of_bound hnext he hbound⟩
      · obtain ⟨hbase, hsteps⟩ := insideProgram_iff.1 hinside
        have hchecked := (romLegal_iff s.params).1 (programsLegal hlegal).rom b _ e hb (Nat.le_succ_of_le hbase) hnext.entry
        have hvol : entryVol e ≠ 3 := (hchecked fun j e' hbj hj he' => by
          rcases Nat.le_succ_iff.1 hj with hle | rfl
          · exact hsteps j e' hbj hle he'
          · cases hnext.entry.symm.trans he'
            exact mt isSentinel_iff.2 (Bool.eq_false_iff.1 he)).1
        exact ⟨_, sndAdvance_of_step hnext he hvol hbound⟩

/-- SND_STEP answers while the sound pointer is safe (44_sound_sequencer.md R268-R270). -/
theorem exec_phSndStep_answers {s : State} (hlegal : s.params.legal = true) (hsafe : soundSafe s = true) :
    ∃ t, exec .phSndStep s = .next t := by
  obtain ⟨hptr, hprogram⟩ := soundSafe_iff.1 hsafe
  cases hactive : s.snd.active with
  | false => exact ⟨_, exec_phSndStep_of_inactive hactive⟩
  | true =>
    obtain ⟨b, hb, hinside⟩ := hprogram hactive
    obtain ⟨e, he⟩ := exists_romHolds hlegal hptr
    have hplays : Plays s e := ⟨hactive, he⟩
    by_cases hcnt : 2 ≤ s.snd.cnt.toNat
    · exact ⟨_, hplays.exec_of_running hcnt⟩
    · obtain ⟨f, tone, -, hadvance⟩ := hplays.exec_of_usedUp (by omega)
      obtain ⟨t, ht⟩ := sndAdvance_answers (s := usedUp s f tone) hlegal hptr hb hinside
      exact ⟨_, by rw [hadvance, ht, andThen_next]⟩

/-! ## RENDER -/

/-- A behaviour that is total has a colour pair at every frame (43_animation_engine.md R248). -/
theorem behaviourAt_of_total {b : Behaviour} (h : b.total = true) (f : Byte) : ∃ pair, behaviourAt b f = some pair := by
  cases b with
  | table rows =>
    have hlen : rows.length = 256 := beq_iff_eq.1 h
    exact ⟨_, List.getElem?_eq_getElem (by rw [hlen]; exact f.isLt)⟩
  | _ => exact ⟨_, rfl⟩

/-- Both behaviours of every mode of a legal record are total (00_scope.md R7). -/
theorem behaviours_total {p : Params} (h : p.legal = true) {m : Mode} (hm : m ∈ p.modeTable) :
    m.idle.total = true ∧ m.touched.total = true := by
  simp only [Params.legal, Params.modeLegal, Bool.and_eq_true, List.all_eq_true] at h
  obtain ⟨⟨-, ⟨⟨-, htotal⟩, -⟩, -⟩, -⟩ := h
  exact htotal m hm

/-- RENDER of a mode of a legal record answers (43_animation_engine.md R232). -/
theorem exec_phRender_answers {s : State} (hlegal : s.params.legal = true) (hmode : s.mode.toNat < s.params.modeCount) :
    ∃ n pair, exec .phRender s = .next (rendered s n pair) := by
  obtain ⟨hmodes, hframes⟩ := modeTables_length hlegal
  obtain ⟨m, hm⟩ : ∃ m, s.params.modeTable[s.mode.toNat]? = some m :=
    ⟨_, List.getElem?_eq_getElem (hmodes ▸ hmode)⟩
  obtain ⟨n, hn⟩ : ∃ n, s.params.touchFrames[s.mode.toNat]? = some n :=
    ⟨_, List.getElem?_eq_getElem (hframes ▸ hmode)⟩
  obtain ⟨hidle, htouched⟩ := behaviours_total hlegal (List.mem_of_getElem? hm)
  obtain ⟨pair, hpair⟩ := behaviourAt_of_total (b := if s.touched then m.touched else m.idle)
    (by split <;> assumption) s.frame
  exact ⟨n, pair, exec_phRender_of_legal hlegal hm hn hpair⟩

end Sys2Proof.Machine

/-! SUPPORT. The way of an accepted tick, cycle by cycle (45_tick_dispatcher.md R290, R302). -/

namespace Sys2Proof.Machine

/-! ## Runs of whole cycles -/

theorem runSteps_add (m n : Nat) (s : State) : runSteps (m + n) s = andThen (runSteps m s) (runSteps n) := by
  induction m generalizing s with
  | zero => rw [Nat.zero_add]; rfl
  | succ m ih =>
    rw [Nat.succ_add, runSteps_succ, runSteps_succ, andThen_assoc]
    exact congrArg _ (funext ih)

/-- A run from a state that keeps R45 ends in one that keeps R45. -/
theorem runSteps_invariant {n : Nat} {s t : State} (hs : s.invariant = true) (h : runSteps n s = .next t) :
    t.invariant = true := by
  induction n generalizing s with
  | zero => cases h; exact hs
  | succ n ih =>
    obtain ⟨u, hu, hrun⟩ := andThen_eq_next.1 h
    exact ih (step_invariant hu) hrun

/-! ## The cycles of a tick -/

/-- TX_WAIT ends once the serializer is idle (R296). -/
theorem exec_phTxWait_idle {s : State} (hidle : s.tx.phase = 0) : exec .phTxWait s = .next (setPhase s 5) :=
  if_pos (txIsIdle_iff.2 hidle)

/-- `n` cycles after `s` the block is in state `t`, in phase `p`, under the same record, with no reset to come and the
debouncer's state as it was. -/
structure TickReaches (s : State) (n : Nat) (p : PhaseCode) (t : State) : Prop where
  run : runSteps n s = .next t
  phase_eq : t.phase = p
  params_eq : t.params = s.params
  legal : t.params.legal = true
  inv : t.invariant = true
  noReset : ∀ v ∈ t.inputs, inRst v = false
  dbState_eq : t.touch.dbState = s.touch.dbState

namespace TickReaches
variable {s t : State} {n : Nat} {p : PhaseCode}

theorem tx_idle (h : TickReaches s n p t) (hp : p ≠ 4) : t.tx.phase = 0 :=
  (invariant_iff.1 h.inv).tx_phase_eq_zero (by rwa [h.phase_eq])

/-- While the serializer is idle the next cycle performs the row of the phase, and is in the phase that row leads to. -/
theorem next (h : TickReaches s n p t) (hidle : t.tx.phase = 0) (h7 : p ≠ 7) {a : State}
    (ha : exec (decodePh p) (driveInput t (currentIn t)) = .next a) : ∃ u, TickReaches s (n + 1) a.phase u := by
  have hrow := phaseRow_of_exec ha
  have hstep := step_of_rows h.legal h.inv (inRst_currentIn h.noReset) (by rw [h.phase_eq]; exact ha)
    (b := driveInput t (currentIn t)) (by rw [hidle]; rfl)
  have hrun : runSteps (n + 1) s = step t := by
    rw [runSteps_add, h.run, andThen_next, runSteps_succ, hstep]
    rfl
  exact ⟨_, hrun.trans hstep, rfl, hrow.params.trans h.params_eq, by rw [hrow.params]; exact h.legal, step_invariant hstep,
    fun v hv => h.noReset v (List.mem_of_mem_tail hv), (hrow.dbState h7).trans h.dbState_eq⟩

/-- From TX_START on, TX_WAIT lasts through the whole frame and its latch, and the serializer is idle in its last cycle
(R295, R296, 41_light_transmitter.md R178). -/
theorem frame (h : TickReaches s n 3 t) {m : Nat} (hm : m ≤ frameCycles s.params (packFrame t)) :
    ∃ u, TickReaches s (n + 1 + m) 4 u ∧ (u.tx.phase = 0 ↔ m = frameCycles s.params (packFrame t)) := by
  rw [← h.params_eq] at hm ⊢
  have hstep := step_of_txStart h.legal h.inv h.phase_eq (inRst_currentIn h.noReset)
  have hnoReset : ∀ v ∈ t.inputs.tail, inRst v = false := fun v hv => h.noReset v (List.mem_of_mem_tail hv)
  obtain ⟨u, hu, hframe, -, -, hidle⟩ :=
    runSteps_frame (s := txStarted t) h.legal (step_invariant hstep) hnoReset rfl hm
  have hrun : runSteps (1 + m) t = .next u := by rw [Nat.add_comm, runSteps_succ, hstep, andThen_next, hu]
  have hinv := runSteps_invariant h.inv hrun
  refine ⟨u, ⟨?_, ?_, ?_, ?_, hinv, ?_, ?_⟩, hidle⟩
  · rw [Nat.add_assoc, runSteps_add, h.run, andThen_next, hrun]
  · rw [hframe]; rfl
  · rw [hframe]; exact h.params_eq
  · rw [hframe]; exact h.legal
  · rw [hframe]; exact fun v hv => hnoReset v (List.mem_of_mem_drop hv)
  · rw [hframe]; exact h.dbState_eq

end TickReaches

/-- An accepted tick is in SND_STEP, RENDER and TX_START in the next three cycles (R291, R293, R294). -/
theorem tickReaches_txStart {s : State} (hgood : s.good = true) (hphase : s.phase = 0)
    (htick : inTick (currentIn s) = true) (hinputs : ∀ v ∈ s.inputs, inRst v = false) :
    ∃ t₁ t₂ t₃, TickReaches s 1 1 t₁ ∧ TickReaches s 2 2 t₂ ∧ TickReaches s 3 3 t₃ := by
  simp only [State.good, Bool.and_eq_true] at hgood
  obtain ⟨⟨⟨⟨hlegal, hinv⟩, -⟩, hsound⟩, -⟩ := hgood
  have hstep := step_of_acceptedTick hlegal hinv hphase htick (inRst_currentIn hinputs)
  have h₁ : TickReaches s 1 1 { s with phase := 1, inputs := s.inputs.tail } :=
    ⟨by rw [runSteps_succ, hstep]; rfl, rfl, rfl, hlegal, step_invariant hstep,
      fun v hv => hinputs v (List.mem_of_mem_tail hv), rfl⟩
  obtain ⟨a, ha⟩ :=
    exec_phSndStep_answers (s := driveInput { s with phase := 1, inputs := s.inputs.tail } _) hlegal hsound
  obtain ⟨t₂, h₂⟩ := h₁.next (h₁.tx_idle (by decide)) (by decide) ha
  rw [show a.phase = 2 from congrArg State.phase (execPhSndStep_frame ha)] at h₂
  obtain ⟨n, pair, hb⟩ :=
    exec_phRender_answers (s := driveInput t₂ (currentIn t₂)) h₂.legal (invariant_iff.1 h₂.inv).mode_lt
  obtain ⟨t₃, h₃⟩ := h₂.next (h₂.tx_idle (by decide)) (by decide) hb
  exact ⟨_, t₂, t₃, h₁, h₂, h₃⟩

/-- After the frame come FRAME_INC and, but in HOLDOFF, the sense request (R296-R298). -/
theorem TickReaches.afterFrame {s t : State} {n : Nat} (h : TickReaches s n 4 t) (hidle : t.tx.phase = 0) :
    ∃ u v, TickReaches s (n + 1) 5 u ∧ TickReaches s (n + 2) (if s.touch.dbState = 2 then 7 else 6) v := by
  obtain ⟨u, hu⟩ := h.next hidle (by decide) (exec_phTxWait_idle (s := driveInput t (currentIn t)) hidle)
  rw [setPhase_phase] at hu
  obtain ⟨v, hv⟩ := hu.next (hu.tx_idle (by decide)) (by decide) rfl
  rw [← hu.dbState_eq]
  exact ⟨u, v, hu, hv⟩

end Sys2Proof.Machine

/-! SUPPORT. The obligations of 45_tick_dispatcher.md. -/

namespace Sys2Proof.Machine

/-- Settles O30: three cycles to TX_START, the frame's cycles in TX_WAIT, and the two cycles after it. -/
theorem tickTimeline : Obligations.TickTimeline := by
  intro s hgood hphase htick hinputs
  obtain ⟨t₁, t₂, t₃, h₁, h₂, h₃⟩ := tickReaches_txStart hgood hphase htick hinputs
  refine ⟨t₃, h₃.run, fun n hn => ?_⟩
  generalize hD : frameCycles s.params (packFrame t₃) = D at hn ⊢
  obtain ⟨t₄, h₄, hidle⟩ := h₃.frame (Nat.le_refl _)
  obtain ⟨t₅, t₆, h₅, h₆⟩ := h₄.afterFrame (hidle.2 rfl)
  rw [hD] at h₅ h₆
  rcases Nat.lt_or_ge n 4 with hearly | hlate
  · interval_cases n
    · exact ⟨s, rfl, hphase⟩
    · exact ⟨t₁, h₁.run, h₁.phase_eq⟩
    · exact ⟨t₂, h₂.run, h₂.phase_eq⟩
    · exact ⟨t₃, h₃.run, h₃.phase_eq⟩
  · simp only [if_neg (show n ≠ 0 by omega), if_neg (show n ≠ 1 by omega), if_neg (show n ≠ 2 by omega),
      if_neg (show n ≠ 3 by omega)]
    obtain ⟨m, rfl⟩ := Nat.exists_eq_add_of_le hlate
    have hcases : m ≤ D ∨ m = D + 1 ∨ m = D + 2 := by omega
    rcases hcases with hm | rfl | rfl
    · obtain ⟨u, hu, -⟩ := h₃.frame (hD ▸ hm)
      exact ⟨u, hu.run, by rw [hu.phase_eq, if_pos (by omega)]⟩
    · exact ⟨t₅, h₅.run, by rw [h₅.phase_eq, if_neg (by omega), if_pos (by omega)]⟩
    · exact ⟨t₆, h₆.run, h₆.phase_eq.trans (by symm; rw [if_neg (by omega), if_neg (by omega)])⟩

/-- Settles O18: the accepting cycle is the row PH_IDLE beside an idle serializer, and no other row leads to SND_STEP. -/
theorem tickIsAcceptedInIdleOnly : Obligations.TickIsAcceptedInIdleOnly := by
  refine ⟨fun s ack d hlegal hinv hphase => ⟨?_, ?_, rfl⟩, fun s t h hphase => ?_, fun s => ?_⟩
  · rw [← step_driveInput_tick]
    exact step_of_acceptedTick (s := driveInput s (inputVector false true ack d)) hlegal hinv hphase
      (inTick_inputVector _ _ _ _) (inRst_inputVector _ _ _ _)
  · simp [State.outputs, busy, hphase]
  · obtain ⟨-, ⟨-, rfl⟩ | ⟨-, -, a, b, ha, -, rfl⟩⟩ := step_next_cases h
    · rw [popInput_phase, resetState_phase]
      decide
    · simpa using ha.phase_ne_sndStep rfl hphase
  · by_cases htick : inTick (currentIn s) = true
    · exact (exec_phIdle_of_tick htick).trans (congrArg _ (if_pos htick).symm)
    · exact (exec_phIdle_of_noTick htick).trans (congrArg _ (if_neg htick).symm)

/-- Settles O19: outside IDLE the cycle does not read the tick, and the flag is that of a busy block. -/
theorem tickOutsideIdleIsDropped : Obligations.TickOutsideIdleIsDropped := by
  intro s ack d hphase
  have hcycle : runCycle (inputVector false true ack d) s = runCycle (inputVector false false ack d) s :=
    runCycle_congr_of_sameAck hphase (by simp) (by simp)
  rw [exec_senseAck_or_nop, ← hcycle]
  simp only [← busy_iff]
  rfl

/-- Settles O20: both rows of a quiescent cycle write nothing, and R45 keeps the serializer idle outside TX_WAIT. -/
theorem quiescentCycleChangesNothing : Obligations.QuiescentCycleChangesNothing := by
  have hlow : ∀ s : State, s.tx.phase = 0 → s.outputs.ledDout = false := fun s hidle => by
    rw [Bool.eq_false_iff, ne_eq, ledDout_iff, hidle]
    decide
  refine ⟨fun s d hlegal hinv hphase => ?_, fun s hinv hphase => hlow s ((invariant_iff.1 hinv).tx_phase_eq_zero hphase)⟩
  have hidle : s.tx.phase = 0 := (invariant_iff.1 hinv).tx_phase_eq_zero (by rw [hphase]; decide)
  have hquiet : ∀ ack : Bool, exec (if ack then .senseAck d else .nop d) s = .next { s with inputs := s.inputs.tail } :=
      fun ack => by
    have hrow := exec_phIdle_of_noTick (s := driveInput s (inputVector false false ack d))
      (ne_true_of_eq_false (inTick_inputVector _ _ _ _))
    rw [cycleRunsPhaseAndSerializer s _ _ ack d hlegal hinv (by rw [hphase]; exact hrow) (by rw [hidle]; rfl), if_pos hidle]
    rfl
  refine ⟨hidle, hquiet false, hquiet true, ?_, hlow s hidle, ?_⟩
  · simp [State.outputs, busy, hphase]
  · rw [Bool.eq_false_iff, ne_eq, senseReq_iff, hphase]
    decide

/-- Settles O50: a cycle's frame counter is the one its dispatcher row leaves. -/
theorem frameCounterProperty : Obligations.FrameCounterProperty := by
  intro s t h hrst
  obtain ⟨-, ⟨hrst', -⟩ | ⟨-, -, a, b, ha, -, rfl⟩⟩ := step_next_cases h
  · exact absurd (hrst.symm.trans hrst') (by decide)
  · exact (commitCycle_frame _ a b).trans ha.frame

/-- Settles O22: the row is FRAME_INC's. -/
theorem frameIncrementAndSenseChoice : Obligations.FrameIncrementAndSenseChoice :=
  fun _ => ⟨_, rfl, BitVec.toNat_ofNat _ 8, rfl, rfl⟩

/-- Settles O23: TX_WAIT by whether the serializer is idle. -/
theorem txWaitHoldsUntilTheSerializerIsIdle : Obligations.TxWaitHoldsUntilTheSerializerIsIdle := by
  intro s
  by_cases hidle : s.tx.phase = 0
  · rw [exec_phTxWait_idle hidle, if_pos hidle]
    rfl
  · rw [exec_phTxWait_busy hidle, if_neg hidle]

end Sys2Proof.Machine

/-! SUPPORT. What makes a sound pointer safe, and the sound sequencer's operations that keep it so (44_sound_sequencer.md R263,
R270). -/

namespace Sys2Proof.Machine

/-! ## Inside a program -/

/-- A program whose first entry is a step has its pointer inside it at its base (R263). -/
theorem insideProgram_base {p : Params} {b : Nat} {e : Entry} (he : p.sndRom[b]? = some e)
    (hstep : isSentinel e = false) : insideProgram p b b = true := by
  refine insideProgram_iff.2 ⟨Nat.le_refl b, fun j e' hbj hjb he' => ?_⟩
  obtain rfl := Nat.le_antisymm hjb hbj
  cases he.symm.trans he'
  exact mt isSentinel_iff.2 (Bool.eq_false_iff.1 hstep)

/-- The entry after the pointer is inside the program too, unless it is the sentinel (R263). -/
theorem insideProgram_succ {p : Params} {ptr b : Nat} {e : Entry} (h : insideProgram p ptr b = true)
    (he : p.sndRom[ptr + 1]? = some e) (hstep : isSentinel e = false) : insideProgram p (ptr + 1) b = true := by
  obtain ⟨hbase, hsteps⟩ := insideProgram_iff.1 h
  refine insideProgram_iff.2 ⟨Nat.le_succ_of_le hbase, fun j e' hbj hj he' => ?_⟩
  rcases Nat.le_succ_iff.1 hj with hle | rfl
  · exact hsteps j e' hbj hle he'
  · cases he.symm.trans he'
    exact mt isSentinel_iff.2 (Bool.eq_false_iff.1 hstep)

/-- An index of a legal record's ROM fits the pointer (00_scope.md R7). -/
theorem ptr_ofNat_toNat {p : Params} (h : p.legal = true) {i : Nat} (hi : i < p.sndRomDepth) :
    (BitVec.ofNat 8 i).toNat = i := by
  simp only [Params.legal, Params.soundLegal, inRange, Bool.and_eq_true, decide_eq_true_eq] at h
  rw [BitVec.toNat_ofNat]
  omega

theorem sndRomDepth_pos {p : Params} (h : p.legal = true) : 0 < p.sndRomDepth := by
  simp only [Params.legal, Params.soundLegal, inRange, Bool.and_eq_true, decide_eq_true_eq] at h
  omega

/-! ## What keeps the pointer safe -/

/-- The check reads the record and the sound registers alone. -/
theorem soundSafe_of_same {s t : State} (hs : soundSafe s = true) (hparams : t.params = s.params)
    (hsnd : t.snd = s.snd) : soundSafe t = true := by
  unfold soundSafe at hs ⊢
  rwa [hparams, hsnd]

/-- A silent sequencer needs no more than a pointer into the ROM. -/
theorem soundSafe_of_inactive {s : State} (hptr : s.snd.ptr.toNat < s.params.sndRomDepth)
    (h : s.snd.active = false) : soundSafe s = true :=
  soundSafe_iff.2 ⟨hptr, fun hactive => absurd (h.symm.trans hactive) (by decide)⟩

/-- SndEnter leaves the pointer, and an entry that is entered is a step (44_sound_sequencer.md R267). -/
theorem enterEntry_soundSafe {e : Entry} {s t : State} (h : enterEntry e s = .next t)
    (hptr : s.snd.ptr.toNat < s.params.sndRomDepth)
    (hinside : isSentinel e = false → ∃ b ∈ s.params.programBase, insideProgram s.params s.snd.ptr.toNat b = true) :
    soundSafe t = true := by
  rcases enterEntry_eq_next.1 h with ⟨-, rfl⟩ | ⟨-, -, rfl⟩ | ⟨hstep, -, -, rfl⟩
  · exact soundSafe_of_inactive hptr rfl
  · exact soundSafe_of_inactive hptr rfl
  · exact soundSafe_iff.2 ⟨hptr, fun _ => hinside hstep⟩

/-- What SndStart can do: it enters the entry at the program's base, with no step counted (44_sound_sequencer.md R266). -/
theorem sndStart_next {q : Nat} {s t : State} (h : sndStart q s = .next t) :
    ∃ i e, s.params.programBase[q]? = some i ∧ RomHolds s.params i e ∧
      enterEntry e { s with snd := { s.snd with ptr := BitVec.ofNat 8 i, steps := 0 } } = .next t := by
  unfold sndStart at h
  split at h
  next i hbase =>
    obtain ⟨hin, e, he, henter⟩ := withRomEntry_eq_next.1 h
    exact ⟨i, e, hbase, ⟨hin, he⟩, henter⟩
  next => cases h

/-- A program that is started has the pointer at its base (44_sound_sequencer.md R266). -/
theorem sndStart_soundSafe {q : Nat} {s t : State} (h : sndStart q s = .next t) (hlegal : s.params.legal = true) :
    soundSafe t = true := by
  obtain ⟨i, e, hbase, hrom, henter⟩ := sndStart_next h
  have hi := ptr_ofNat_toNat hlegal hrom.inRom
  refine enterEntry_soundSafe henter (by simpa only [hi] using hrom.inRom) fun hstep => ?_
  simp only [hi]
  exact ⟨i, List.mem_of_getElem? hbase, insideProgram_base hrom.entry hstep⟩

/-- What SndAdvance can do (44_sound_sequencer.md R270, R272). -/
theorem sndAdvance_next {s t : State} (h : sndAdvance s = .next t) :
    (s.snd.ptr.toNat = s.params.sndRomDepth - 1 ∧ t = sndSilence (setSndErr s)) ∨
      (s.snd.ptr.toNat ≠ s.params.sndRomDepth - 1 ∧ ∃ e, RomHolds s.params (s.snd.ptr.toNat + 1) e ∧
        enterEntry e { s with snd := { s.snd with ptr := BitVec.ofNat 8 (s.snd.ptr.toNat + 1) } } = .next t) := by
  unfold sndAdvance at h
  split at h
  next hlast => cases h; exact .inl ⟨hlast, rfl⟩
  next hmore =>
    obtain ⟨hin, e, he, henter⟩ := withRomEntry_eq_next.1 h
    exact .inr ⟨hmore, e, ⟨hin, he⟩, henter⟩

/-- An advance stops at the ROM's last index or moves on inside its program (44_sound_sequencer.md R270). -/
theorem sndAdvance_soundSafe {s t : State} (h : sndAdvance s = .next t) (hlegal : s.params.legal = true)
    (hactive : s.snd.active = true) (hs : soundSafe s = true) : soundSafe t = true := by
  obtain ⟨hptr, hprogram⟩ := soundSafe_iff.1 hs
  obtain ⟨b, hb, hinside⟩ := hprogram hactive
  rcases sndAdvance_next h with ⟨-, rfl⟩ | ⟨-, e, hrom, henter⟩
  · exact soundSafe_of_inactive hptr rfl
  · have hnext := ptr_ofNat_toNat hlegal hrom.inRom
    refine enterEntry_soundSafe henter (by simpa only [hnext] using hrom.inRom) fun hstep => ?_
    simp only [hnext]
    exact ⟨b, hb, insideProgram_succ hinside hrom.entry hstep⟩

/-- What SndStep can do: with a countdown of 2 or more it glides and counts, with 1 or 0 the program advances (R269). -/
theorem sndStep_next {s t : State} (h : sndStep s = .next t) :
    (2 ≤ s.snd.cnt.toNat ∧ ∃ e, t = glideAndCount e s) ∨
      (s.snd.cnt.toNat ≤ 1 ∧ ∃ f tone, sndAdvance (usedUp s f tone) = .next t) := by
  obtain ⟨-, e, -, hstep⟩ := withRomEntry_eq_next.1 h
  split at hstep
  next hzero =>
    refine .inr ⟨by simp [hzero], s.snd.freq, s.snd.toneFreq, ?_⟩
    rwa [usedUp, ← hzero]
  next hne =>
    split at hstep
    next hlast =>
      refine .inr ⟨?_, (glideAndCount e s).snd.freq, (glideAndCount e s).snd.toneFreq, ?_⟩
      · rw [glideAndCount_snd] at hlast
        bv_omega
      · rwa [usedUp, ← hlast]
    next hmore =>
      cases hstep
      refine .inl ⟨?_, e, rfl⟩
      rw [glideAndCount_snd] at hmore
      bv_omega

/-- A sound step of an active program keeps the pointer safe (R269, R270). -/
theorem sndStep_soundSafe {s t : State} (h : sndStep s = .next t) (hlegal : s.params.legal = true)
    (hactive : s.snd.active = true) (hs : soundSafe s = true) : soundSafe t = true := by
  rcases sndStep_next h with ⟨-, e, rfl⟩ | ⟨-, f, tone, hadvance⟩
  · exact hs
  · exact sndAdvance_soundSafe hadvance hlegal hactive hs

/-- A touch start's program, if there is one, is started at its base (42_touch_debouncer.md R207). -/
theorem startBoop_next {s t : State} (h : startBoop s = .next t) : t = s ∨ ∃ q, sndStart q s = .next t := by
  unfold startBoop at h
  split at h
  next =>
    split at h
    next q _ => exact .inr ⟨q, h⟩
    next => cases h; exact .inl rfl
    next => cases h
  next => cases h

/-! ## Every row keeps the pointer safe -/

theorem DebouncerRow.soundSafe {c : Code2} {s t : State} (h : DebouncerRow s c t) (hlegal : s.params.legal = true)
    (hs : soundSafe s = true) : soundSafe t = true := by
  cases h with
  | touchStart _ hboop =>
    rcases startBoop_next hboop with heq | ⟨q, hstart⟩
    · rw [heq]; exact hs
    · exact sndStart_soundSafe hstart hlegal
  | longTouch _ _ hadv => exact sndStart_soundSafe hadv hlegal
  | release => exact soundSafe_of_same hs (releaseTouch_params s) (releaseTouch_snd s)
  | _ => exact hs

/-- SND_STEP and DEBOUNCE keep the pointer safe, and no other row writes the sound registers. -/
theorem PhaseRow.soundSafe {c : PhaseCode} {s t : State} (h : PhaseRow s c t) (hlegal : s.params.legal = true)
    (hs : soundSafe s = true) : soundSafe t = true := by
  by_cases h1 : c = 1
  · subst h1
    cases h with
    | silent => exact hs
    | sound hactive hstep =>
      have hsound := sndStep_soundSafe hstep hlegal hactive hs
      exact hsound
  by_cases h7 : c = 7
  · subst h7
    cases h with
    | debounce hrow => exact hrow.soundSafe hlegal hs
  · exact soundSafe_of_same hs h.params (h.snd h1 h7)

end Sys2Proof.Machine

/-! SUPPORT. The calibration's count and sum: they are those of the readings taken, in every phase (42_touch_debouncer.md R203). -/

namespace Sys2Proof.Machine

/-- What the safety check says of the calibration. -/
theorem calibrationSafe_iff {s : State} : calibrationSafe s = true ↔
    s.touch.calSum.toNat ≤ s.touch.calCnt.toNat * 65535 ∧ (s.phase = 8 ∨ s.phase = 9 → s.touch.calCnt.toNat ≤ 9) ∧
      (s.phase ≠ 8 → s.phase ≠ 9 → s.touch.calCnt = 10) := by
  have hphases : s.phase.toNat = 8 ∨ s.phase.toNat = 9 ↔ s.phase = 8 ∨ s.phase = 9 := by
    rw [← BitVec.toNat_inj (y := 8), ← BitVec.toNat_inj (y := 9)]
    rfl
  simp only [calibrationSafe, hphases, Bool.and_eq_true, decide_eq_true_eq]
  refine and_congr_right fun _ => ?_
  by_cases h : s.phase = 8 ∨ s.phase = 9
  · rw [if_pos h, decide_eq_true_eq]
    exact ⟨fun hcnt => ⟨fun _ => hcnt, fun h8 h9 => absurd h (not_or.2 ⟨h8, h9⟩)⟩, fun hcnt => hcnt.1 h⟩
  · rw [if_neg h, beq_iff_eq]
    exact ⟨fun hcnt => ⟨fun hin => absurd hin h, fun _ _ => hcnt⟩, fun hcnt => hcnt.2 (not_or.1 h).1 (not_or.1 h).2⟩

/-- A reading keeps the check: the tenth one leads to CAL_DONE, and the sum has room for it (R203). -/
theorem calibrationReading_safe {s : State} (raw : Half) (hlegal : s.params.legal = true) (hphase : s.phase = 8)
    (hs : calibrationSafe s = true) : calibrationSafe (calibrationReading raw s) = true := by
  obtain ⟨hsum, hfew, -⟩ := calibrationSafe_iff.1 hs
  have hcnt := hfew (.inl hphase)
  have hraw := raw.isLt
  have hsucc := calCnt_succ_toNat hcnt
  have hroom : (BitVec.ofNat 20 (s.touch.calSum.toNat + raw.toNat)).toNat ≤ (s.touch.calCnt + 1).toNat * 65535 := by
    rw [BitVec.toNat_ofNat, hsucc]
    omega
  rw [calibrationReading_eq hlegal, calibrationSafe_iff]
  split
  next htenth => exact ⟨hroom, by simp, fun _ _ => by simp [htenth]⟩
  next hfewer =>
    refine ⟨hroom, fun _ => ?_, by simp⟩
    show (s.touch.calCnt + 1).toNat ≤ 9
    rw [hsucc]
    bv_omega

/-- A CAL_WAIT cycle without an ack keeps the check: it waits, or takes a reading of 0 (R212). -/
theorem senseTimeoutOp_calibrationSafe {s : State} (hlegal : s.params.legal = true) (hphase : s.phase = 8)
    (hs : calibrationSafe s = true) : calibrationSafe (senseTimeoutOp s (calibrationReading 0#16)) = true := by
  rcases senseTimeoutOp_cases s (calibrationReading 0#16) with ⟨-, h⟩ | ⟨n, -, -, h⟩ | ⟨n, -, -, h⟩ <;> rw [h]
  · exact hs
  · exact calibrationReading_safe (s := { s with touch := { s.touch with senseTimeout := true, senseTmr := 0 } }) 0#16
      hlegal hphase hs
  · exact hs

/-- The debouncer's rows write neither the count nor the sum. -/
theorem DebouncerRow.calibration {c : Code2} {s t : State} (h : DebouncerRow s c t) :
    (t.touch.calCnt, t.touch.calSum) = (s.touch.calCnt, s.touch.calSum) := by
  cases h with
  | release => unfold releaseTouch; split <;> rfl
  | _ => rfl

/-- CAL_WAIT alone writes the count and the sum (R203). -/
theorem PhaseRow.calibration {c : PhaseCode} {s t : State} (h : PhaseRow s c t) (h8 : c ≠ 8) :
    (t.touch.calCnt, t.touch.calSum) = (s.touch.calCnt, s.touch.calSum) := by
  cases h with
  | debounce hrow => exact hrow.calibration
  | senseHold => exact senseTimeoutOp_field (fun u => (u.touch.calCnt, u.touch.calSum)) s (fun _ _ => rfl) fun _ => rfl
  | calReading => exact absurd rfl h8
  | calHold => exact absurd rfl h8
  | _ => rfl

/-- No row but those of CAL_WAIT and CAL_GAP leads to one of them: every other goes to a phase below them (R203, R204). -/
theorem PhaseRow.phase_ne_calibration {c p : PhaseCode} {s t : State} (h : PhaseRow s c t) (hphase : s.phase = c)
    (h8 : c ≠ 8) (h9 : c ≠ 9) (hp : p = 8 ∨ p = 9) : t.phase ≠ p := by
  have hbelow : ∀ q : PhaseCode, q.toNat < 8 → q ≠ p := by
    rintro q hq rfl
    rcases hp with rfl | rfl <;> exact absurd hq (by decide)
  cases h with
  | idle => rw [hphase]; exact hbelow 0 (by decide)
  | txBusy => rw [hphase]; exact hbelow 4 (by decide)
  | frameInc => dsimp only; split <;> exact hbelow _ (by decide)
  | senseHold => exact senseTimeoutOp_phase_ne (by rw [hphase]; exact hbelow 6 (by decide)) fun _ => hbelow 7 (by decide)
  | calReading => exact absurd rfl h8
  | calHold => exact absurd rfl h8
  | gapEnd => exact absurd rfl h9
  | gapCount => exact absurd rfl h9
  | _ => exact hbelow _ (by simp)

/-- The dispatcher's row of the current phase keeps the check. -/
theorem PhaseRow.calibrationSafe {s t : State} (h : PhaseRow s s.phase t) (hlegal : s.params.legal = true)
    (hs : calibrationSafe s = true) : calibrationSafe t = true := by
  by_cases h8 : s.phase = 8
  · rw [h8] at h
    cases h with
    | calReading => exact calibrationReading_safe _ hlegal h8 hs
    | calHold => exact senseTimeoutOp_calibrationSafe hlegal h8 hs
  · obtain ⟨hcnt, hsumEq⟩ := Prod.mk.inj (h.calibration h8)
    obtain ⟨hsum, hfew, hall⟩ := calibrationSafe_iff.1 hs
    rw [calibrationSafe_iff, hcnt, hsumEq]
    refine ⟨hsum, ?_⟩
    by_cases h9 : s.phase = 9
    · have hstay : t.phase = 8 ∨ t.phase = 9 := by
        rw [h9] at h
        cases h with
        | gapEnd => exact .inl rfl
        | gapCount => exact .inr h9
      exact ⟨fun _ => hfew (.inr h9), fun hne8 hne9 => absurd hstay (not_or.2 ⟨hne8, hne9⟩)⟩
    · have hout : ¬ (t.phase = 8 ∨ t.phase = 9) :=
        not_or.2 ⟨h.phase_ne_calibration rfl h8 h9 (.inl rfl), h.phase_ne_calibration rfl h8 h9 (.inr rfl)⟩
      exact ⟨fun hin => absurd hin hout, fun _ _ => hall h8 h9⟩

end Sys2Proof.Machine

/-! SUPPORT. Good states: every row of the phase and every cycle answers from one, and every step keeps it good
(60_exceptions.md R326). -/

namespace Sys2Proof.Machine

/-! ## The parts of a good state -/

/-- The facts that a run from reset keeps. -/
structure State.Good (s : State) : Prop where
  legal : s.params.legal = true
  inv : s.invariant = true
  buffer : Memory.wf s.buf = true
  sound : soundSafe s = true
  calibration : calibrationSafe s = true

theorem good_iff {s : State} : s.good = true ↔ s.Good := by
  simp only [State.good, Bool.and_eq_true]
  constructor
  · rintro ⟨⟨⟨⟨hlegal, hinv⟩, hbuf⟩, hsound⟩, hcal⟩
    exact ⟨hlegal, hinv, hbuf, hsound, hcal⟩
  · rintro ⟨hlegal, hinv, hbuf, hsound, hcal⟩
    exact ⟨⟨⟨⟨hlegal, hinv⟩, hbuf⟩, hsound⟩, hcal⟩

/-- What makes a state good does not depend on the inputs. -/
theorem good_driveInput {s : State} (h : s.Good) (v : InVec) : (driveInput s v).Good :=
  ⟨h.legal, h.inv, h.buffer, h.sound, h.calibration⟩

/-! ## Every row and every step answers -/

/-- A rule that writes one of two states answers. -/
theorem exists_next_ite (c : Prop) [Decidable c] (a b : State) :
    ∃ t, (if c then .next a else .next b : Result) = .next t := by
  split <;> exact ⟨_, rfl⟩

/-- From a good state the row of the current phase answers, phase code by phase code (60_exceptions.md R326). -/
theorem State.Good.exec_ph_answers {s : State} (h : s.Good) : ∃ t, exec (decodePh s.phase) s = .next t := by
  have hs := invariant_iff.1 h.inv
  have hle := hs.phase_le
  have hidle := hs.tx_phase_eq_zero
  generalize s.phase = c at hle hidle ⊢
  obtain ⟨n⟩ := c
  fin_cases n
  · exact exists_next_ite _ _ _
  · exact exec_phSndStep_answers h.legal h.sound
  · obtain ⟨n, pair, hrender⟩ := exec_phRender_answers h.legal hs.mode_lt
    exact ⟨_, hrender⟩
  · exact ⟨_, exec_phTxStart (hidle (by decide))⟩
  · exact exists_next_ite _ _ _
  · exact ⟨_, rfl⟩
  · exact exists_next_ite _ _ _
  · obtain ⟨u, hu⟩ := exec_db_answers h.legal hs.mode_lt hs.debouncer.dbState_ne
    exact ⟨setPhase u 0, (exec_phDebounce s).trans (by rw [hu, andThen_next])⟩
  · exact exists_next_ite _ _ _
  · exact exists_next_ite _ _ _
  · exact ⟨_, rfl⟩
  all_goals exact absurd hle (by decide)

/-- From a good state every step answers: a reset under its legal record, or a cycle whose two rows answer. -/
theorem State.Good.step_answers {s : State} (h : s.Good) : ∃ t, step s = .next t := by
  rcases step_cases s with ⟨-, hstep⟩ | ⟨hrst, -⟩
  · exact ⟨_, by rw [hstep, if_pos h.legal]⟩
  · have hdriven : (driveInput s (currentIn s)).Good := good_driveInput h _
    obtain ⟨a, ha⟩ := hdriven.exec_ph_answers
    obtain ⟨b, hb⟩ := exec_txp_answers s.tx.phase (invariant_iff.1 hdriven.inv).bit_le
    exact ⟨_, step_of_rows h.legal h.inv hrst ha hb⟩

/-! ## Every step keeps a state good -/

/-- The reset state is good under every legal record. -/
theorem popInput_resetState_good {s : State} (hlegal : s.params.legal = true) : (popInput (resetState s)).Good where
  legal := hlegal
  inv := resetState_invariant hlegal
  buffer := reset_buf_wf
  sound := soundSafe_of_inactive (sndRomDepth_pos hlegal) rfl
  calibration := rfl

/-- Every step from a good state leaves a good one: the dispatcher's row keeps the pointer and the count, and the serializer's
writes are none of them. -/
theorem State.Good.step_good {s t : State} (h : s.Good) (hstep : step s = .next t) : t.Good := by
  obtain ⟨-, ⟨-, rfl⟩ | ⟨-, -, a, b, ha, -, ht⟩⟩ := step_next_cases hstep
  · exact popInput_resetState_good h.legal
  · have hparams : t.params = a.params := by rw [ht]; exact commitCycle_params _ a b
    have hphase : t.phase = a.phase := by rw [ht]; exact commitCycle_phase _ a b
    have htouch : t.touch = a.touch := by rw [ht]; exact commitCycle_touch _ a b
    have hsnd : t.snd = a.snd := by rw [ht]; exact commitCycle_snd _ a b
    refine ⟨?_, step_invariant hstep, everyStepKeepsTheBufferCanonical s t h.buffer hstep, ?_, ?_⟩
    · rw [hparams, ha.params]; exact h.legal
    · exact soundSafe_of_same (ha.soundSafe h.legal h.sound) hparams hsnd
    · have hcal : calibrationSafe a = true := ha.calibrationSafe h.legal h.calibration
      rw [calibrationSafe_iff] at hcal ⊢
      rwa [hphase, htouch]

/-- A cycle whose vector is an event's performs that event (30_encoding.md R102). -/
theorem step_driveInput (s : State) (v : InVec) : step (driveInput s v) = exec (decodeIn v) s := by
  show exec (decodeIn v) (driveInput s v) = _
  unfold decodeIn
  split_ifs <;> rfl

/-- From a good state the instruction of every input vector answers, with a good state. -/
theorem State.Good.exec_input {s : State} (h : s.Good) (v : InVec) :
    ∃ t, exec (decodeIn v) s = .next t ∧ t.good = true := by
  have hdriven : (driveInput s v).Good := good_driveInput h _
  obtain ⟨t, ht⟩ := hdriven.step_answers
  exact ⟨t, (step_driveInput s v).symm.trans ht, good_iff.2 (hdriven.step_good ht)⟩

end Sys2Proof.Machine

/-! SUPPORT. The sticky flags: what each operation does to them (60_exceptions.md R320). -/

namespace Sys2Proof.Machine

/-! ## `tick_overrun` (45_tick_dispatcher.md R292) -/

theorem DebouncerRow.tickOverrun {c : Code2} {s t : State} (h : DebouncerRow s c t) : t.tickOverrun = s.tickOverrun := by
  cases h <;> simp

/-- No row writes `tick_overrun`: the cycle of a dropped tick does. -/
theorem PhaseRow.tickOverrun {c : PhaseCode} {s t : State} (h : PhaseRow s c t) : t.tickOverrun = s.tickOverrun := by
  cases h with
  | debounce hrow => exact hrow.tickOverrun
  | senseHold => exact senseTimeoutOp_field State.tickOverrun s (fun _ _ => rfl) abandonReading_tickOverrun
  | calHold => exact senseTimeoutOp_field State.tickOverrun s (fun _ _ => rfl) (calibrationReading_tickOverrun _)
  | _ => simp

/-! ## `snd_err` (44_sound_sequencer.md R272) -/

/-- SndEnter sets the flag before a step at the bound alone. -/
theorem enterEntry_err {e : Entry} {s t : State} (h : enterEntry e s = .next t) :
    t.snd.err = true ↔ s.snd.err = true ∨ (s.snd.steps.toNat = s.params.sndMaxSteps ∧ isSentinel e = false) := by
  rcases enterEntry_eq_next.1 h with ⟨he, rfl⟩ | ⟨he, hbound, rfl⟩ | ⟨-, hbound, -, rfl⟩
  · simp [he]
  · simp [he, hbound]
  · simp [hbound]

/-- A program starts below its step bound, so its start leaves the flag. -/
theorem sndStart_err {q : Nat} {s t : State} (h : sndStart q s = .next t) (hlegal : s.params.legal = true) :
    t.snd.err = s.snd.err := by
  obtain ⟨i, e, -, -, henter⟩ := sndStart_next h
  have hbound : 0 ≠ s.params.sndMaxSteps := Nat.ne_of_lt (programsLegal hlegal).maxSteps_pos
  rw [Bool.eq_iff_iff, enterEntry_err henter]
  exact or_iff_left fun hstop => hbound hstop.1

/-- An advance has nowhere to go: the pointer is at the ROM's last index, or the next entry is a step and the bound is reached
(R272). -/
def AdvanceStops (s : State) : Prop :=
  s.snd.ptr.toNat = s.params.sndRomDepth - 1 ∨
    (s.snd.steps.toNat = s.params.sndMaxSteps ∧
      ∃ e, s.params.sndRom[s.snd.ptr.toNat + 1]? = some e ∧ isSentinel e = false)

theorem sndAdvance_err {s t : State} (h : sndAdvance s = .next t) :
    t.snd.err = true ↔ s.snd.err = true ∨ AdvanceStops s := by
  rcases sndAdvance_next h with ⟨hlast, rfl⟩ | ⟨hmore, e, hrom, henter⟩
  · exact iff_of_true rfl (.inr (.inl hlast))
  · simp [enterEntry_err henter, AdvanceStops, hmore, hrom.entry]

/-- A sound step sets the flag where its countdown ends and the advance stops. -/
theorem sndStep_err {s t : State} (h : sndStep s = .next t) :
    t.snd.err = true ↔ s.snd.err = true ∨ (s.snd.cnt.toNat ≤ 1 ∧ AdvanceStops s) := by
  rcases sndStep_next h with ⟨hcnt, e, rfl⟩ | ⟨hcnt, f, tone, hadvance⟩
  · exact (or_iff_left fun hstop => absurd hstop.1 (by omega)).symm
  · exact (sndAdvance_err hadvance).trans (or_congr_right (and_iff_right hcnt).symm)

/-- The debouncer's programs are started, which leaves the flag. -/
theorem DebouncerRow.err {c : Code2} {s t : State} (h : DebouncerRow s c t) (hlegal : s.params.legal = true) :
    t.snd.err = s.snd.err := by
  cases h with
  | touchStart _ hboop =>
    rcases startBoop_next hboop with heq | ⟨q, hstart⟩
    · rw [heq]; rfl
    · exact sndStart_err (s := beginTouch s) hstart hlegal
  | longTouch _ _ hadv => exact sndStart_err (s := modeAdvanced s) hadv hlegal
  | release => simp
  | _ => rfl

/-- SND_STEP of an active program alone sets the flag (R272). -/
theorem PhaseRow.err {c : PhaseCode} {s t : State} (h : PhaseRow s c t) (hlegal : s.params.legal = true) :
    t.snd.err = true ↔ s.snd.err = true ∨
      (c = 1 ∧ s.snd.active = true ∧ s.snd.cnt.toNat ≤ 1 ∧ AdvanceStops s) := by
  by_cases h1 : c = 1
  · subst h1
    cases h with
    | silent hactive => simp [hactive]
    | sound hactive hstep => simpa [hactive] using sndStep_err hstep
  · have hkept : t.snd.err = s.snd.err := by
      by_cases h7 : c = 7
      · subst h7
        cases h with
        | debounce hrow => exact hrow.err hlegal
      · rw [h.snd h1 h7]
    rw [hkept]
    exact (or_iff_left fun hstop => h1 hstop.1).symm

/-! ## `sense_timeout` (42_touch_debouncer.md R212) -/

/-- A request cycle without an ack sets the flag where it is the request's last one. -/
theorem senseTimeoutOp_senseTimeout {s : State} {expire : State → State}
    (hexpire : ∀ u, (expire u).touch.senseTimeout = u.touch.senseTimeout) :
    (senseTimeoutOp s expire).touch.senseTimeout = true ↔ s.touch.senseTimeout = true ∨
      ∃ n, s.params.senseTimeoutCyc = some n ∧ s.touch.senseTmr.toNat = n - 1 := by
  rcases senseTimeoutOp_cases s expire with ⟨hnone, h⟩ | ⟨n, hn, hlast, h⟩ | ⟨n, hn, hearlier, h⟩ <;> rw [h]
  · simp [hnone]
  · rw [hexpire]
    exact iff_of_true rfl (.inr ⟨n, hn, hlast⟩)
  · simp [hn, hearlier]

theorem DebouncerRow.senseTimeout {c : Code2} {s t : State} (h : DebouncerRow s c t) :
    t.touch.senseTimeout = s.touch.senseTimeout := by
  cases h with
  | release => unfold releaseTouch; split <;> rfl
  | _ => rfl

/-- The last cycle of a request without an ack alone sets the flag (R212). -/
theorem PhaseRow.senseTimeout {c : PhaseCode} {s t : State} (h : PhaseRow s c t) :
    t.touch.senseTimeout = true ↔ s.touch.senseTimeout = true ∨
      ((c = 6 ∨ c = 8) ∧ inAck (currentIn s) = false ∧
        ∃ n, s.params.senseTimeoutCyc = some n ∧ s.touch.senseTmr.toNat = n - 1) := by
  cases h with
  | senseHold hack => simpa [hack] using senseTimeoutOp_senseTimeout (expire := abandonReading) fun _ => rfl
  | calHold hack => simpa [hack] using senseTimeoutOp_senseTimeout (calibrationReading_senseTimeout _)
  | capture hack => simp [hack]
  | calReading hack => simp [hack]
  | debounce hrow => simp [hrow.senseTimeout]
  | _ => simp

end Sys2Proof.Machine

/-! SUPPORT. A request that nothing answers (60_exceptions.md R322). -/

namespace Sys2Proof.Machine

/-- A tick among the next `n + 1` cycles is one in this cycle or one in the `n` after it; past the list there is none (log 1). -/
theorem any_inTick_take_succ (s : State) (n : Nat) :
    (s.inputs.take (n + 1)).any inTick = (inTick (currentIn s) || (s.inputs.tail.take n).any inTick) := by
  unfold currentIn
  cases s.inputs with
  | nil => simp [inTick]
  | cons v rest => rfl

/-- SENSE_WAIT or CAL_WAIT under a record without a timeout, with neither a reset nor an ack to come (60_exceptions.md R322). -/
structure Hangs (s : State) : Prop where
  legal : s.params.legal = true
  inv : s.invariant = true
  noTimeout : s.params.senseTimeoutCyc = none
  request : s.phase = 6 ∨ s.phase = 8
  silent : ∀ v ∈ s.inputs, inRst v = false ∧ inAck v = false

namespace Hangs
variable {s : State}

/-- In both request phases the serializer is idle. -/
theorem tx_idle (h : Hangs s) : s.tx.phase = 0 :=
  (invariant_iff.1 h.inv).tx_phase_eq_zero (by rcases h.request with h6 | h8 <;> simp [*])

/-- No ack is listed, so none comes: after the list every vector is 0 (log 1). -/
theorem noAck (h : Hangs s) : inAck (currentIn s) = false := by
  unfold currentIn
  cases hin : s.inputs with
  | nil => rfl
  | cons v rest => exact (h.silent v (by simp [hin])).2

/-- Without a timeout and without an ack the request's row writes nothing (42_touch_debouncer.md R203, R212). -/
theorem exec_request (h : Hangs s) :
    exec (decodePh s.phase) (driveInput s (currentIn s)) = .next (driveInput s (currentIn s)) := by
  rcases h.request with h6 | h8
  · rw [h6]
    exact (exec_phSenseWait_of_noAck (s := driveInput s (currentIn s)) h.noAck).trans
      (congrArg _ (senseTimeoutOp_of_none h.noTimeout))
  · rw [h8]
    exact (exec_phCalWait_of_noAck (s := driveInput s (currentIn s)) h.noAck).trans
      (congrArg _ (senseTimeoutOp_of_none h.noTimeout))

/-- Of the two request phases SENSE_WAIT alone is busy (10_state.md R32). -/
theorem busy_eq (h : Hangs s) : busy s = (s.phase == 6) := by
  rcases h.request with h6 | h8 <;> simp [busy, *]

/-- A cycle of an unanswered request consumes its vector, and in SENSE_WAIT notes a dropped tick. -/
theorem step_eq (h : Hangs s) : step s = .next { s with
    inputs := s.inputs.tail
    tickOverrun := s.tickOverrun || (s.phase == 6 && inTick (currentIn s)) } := by
  have hrow : exec (decodeTxp s.tx.phase) (driveInput s (currentIn s)) = .next (driveInput s (currentIn s)) := by
    rw [h.tx_idle]
    rfl
  rw [step_of_rows h.legal h.inv (inRst_currentIn fun v hv => (h.silent v hv).1) h.exec_request hrow, if_pos h.tx_idle,
    h.busy_eq, Bool.and_comm]
  rfl

/-- The request goes on after a cycle: no field it depends on is written. -/
theorem next (h : Hangs s) (flag : Bool) : Hangs { s with inputs := s.inputs.tail, tickOverrun := flag } :=
  ⟨h.legal, h.inv, h.noTimeout, h.request, fun v hv => h.silent v (List.mem_of_mem_tail hv)⟩

/-- After any number of cycles the request is still open (R322). -/
theorem runSteps_eq (h : Hangs s) (n : Nat) : runSteps n s = .next { s with
    inputs := s.inputs.drop n
    tickOverrun := s.tickOverrun || (s.phase == 6 && (s.inputs.take n).any inTick) } := by
  induction n generalizing s with
  | zero => simp [runSteps]
  | succ n ih =>
    rw [runSteps_succ, h.step_eq, andThen_next, ih (h.next _), any_inTick_take_succ, Bool.and_or_distrib_left,
      ← Bool.or_assoc, List.drop_tail]

end Hangs

end Sys2Proof.Machine

/-! SUPPORT. The obligations of 60_exceptions.md. -/

namespace Sys2Proof.Machine

/-- Settles O16: each input row is the instruction of one of its vectors, and both rows of a cycle from a good state answer
and keep what makes it good. -/
theorem goodStatesRunAndStayGood : Obligations.GoodStatesRunAndStayGood := by
  intro s hgood
  have h := good_iff.1 hgood
  have hevent : ∀ (tick ack : Bool) (d : Half), ∃ t,
      exec (if tick then .tick ack d else if ack then .senseAck d else .nop d) s = .next t ∧ t.good = true :=
    fun tick ack d => decodeIn_inputVector tick ack d ▸ h.exec_input (inputVector false tick ack d)
  have hreset : ∀ rest, ∃ t, exec (.reset rest) s = .next t ∧ t.good = true :=
    fun rest => decodeIn_cons_true rest ▸ h.exec_input (BitVec.cons true rest)
  exact ⟨hevent false false, hevent false true, hevent true, hreset, h.exec_input (currentIn s)⟩

/-- Settles O10: both kinds of step look at the record first, and a cycle's checks come before its rows. -/
theorem illegalRecordsAndBrokenInvariantsStop : Obligations.IllegalRecordsAndBrokenInvariantsStop := by
  refine ⟨fun s hillegal => ?_, fun s hlegal hrst hphase hdb hbroken => ?_⟩
  · have hcycle : runCycle (currentIn s) s = .refused .illegalParameters := by
      rw [runCycle, admitted, if_neg (by simp [hillegal])]
    rcases step_cases s with ⟨-, hstep⟩ | ⟨-, hstep⟩
    · rw [hstep, hillegal]
      rfl
    · rw [hstep, hcycle, andThen_refused]
  · have hcode : ¬ 11 ≤ s.phase.toNat := by omega
    have hreserved : ¬ (s.phase = 7#4 ∧ s.touch.dbState = 3#2) := fun hdebounce => hdb hdebounce.2
    have hcycle : runCycle (currentIn s) s = .fault .invariant := by
      rw [runCycle, admitted, if_pos hlegal, if_neg hcode, if_neg hreserved, if_neg (by simp [hbroken])]
    rcases step_cases s with ⟨hrst', -⟩ | ⟨-, hstep⟩
    · exact absurd (hrst.symm.trans hrst') (by decide)
    · rw [hstep, hcycle, andThen_fault]

/-- Settles O43: one cycle of an unanswered request leaves it open, and so does any number of them. -/
theorem unansweredRequestHangs : Obligations.UnansweredRequestHangs := by
  intro s n hlegal hinv hnone hphase hinputs
  have h : Hangs s := ⟨hlegal, hinv, hnone, hphase, hinputs⟩
  refine ⟨?_, senseReq_iff.2 hphase, h.runSteps_eq n⟩
  rw [Bool.eq_false_iff, ne_eq, ledDout_iff, h.tx_idle]
  decide

/-- Settles O51: `snd_err` and `sense_timeout` are what the dispatcher's row leaves, and `tick_overrun` is the cycle's own. -/
theorem stickyFlagsStayAndHaveTheirCauses : Obligations.StickyFlagsStayAndHaveTheirCauses := by
  intro s t h hrst
  obtain ⟨hlegal, ⟨hrst', -⟩ | ⟨-, -, a, b, ha, -, rfl⟩⟩ := step_next_cases h
  · exact absurd (hrst.symm.trans hrst') (by decide)
  · refine ⟨?_, ?_, ?_⟩
    · rw [← busy_iff]
      simp [ha.tickOverrun]
    · rw [popInput_snd, commitCycle_snd]
      exact ha.err hlegal
    · rw [popInput_touch, commitCycle_touch]
      exact ha.senseTimeout

end Sys2Proof.Machine

/-! SUPPORT. The calibration cycle by cycle: a reading with its gap, the last reading with CAL_DONE, and the run of all the
readings (70_reset_and_hazards.md R352, 42_touch_debouncer.md R203-R205). -/

namespace Sys2Proof.Machine

/-! ## One cycle -/

/-- The listed vector is the one the cycle reads. -/
theorem driveInput_head {s : State} {v : InVec} {rest : List InVec} (hin : s.inputs = v :: rest) :
    driveInput s (currentIn s) = s := by
  apply state_ext <;> simp [driveInput, currentIn, hin]

section
variable {s : State} {rest : List InVec}

/-- A cycle of the calibration without reset is its phase's row and the consumed vector: the serializer is idle, and a tick
leaves no flag (R352, 45_tick_dispatcher.md R292). -/
theorem step_of_calibrating {a : State} {v : InVec} (hlegal : s.params.legal = true) (hinv : s.invariant = true)
    (hphase : 8 ≤ s.phase.toNat) (hin : s.inputs = v :: rest) (hrst : inRst v = false)
    (ha : exec (decodePh s.phase) s = .next a) : step s = .next { a with inputs := rest } := by
  have hidle : s.tx.phase = 0 :=
    (invariant_iff.1 hinv).tx_phase_eq_zero fun h4 => absurd hphase (by rw [h4]; decide)
  have hcurrent : currentIn s = v := by rw [currentIn, hin]; rfl
  have hbusy : busy s = false := by
    rw [Bool.eq_false_iff, ne_eq, busy_iff]
    omega
  have hstep := step_of_rows (a := a) (b := s) hlegal hinv (hcurrent ▸ hrst) (by rw [driveInput_head hin]; exact ha)
    (by rw [driveInput_head hin, hidle]; rfl)
  rw [hstep, hin, if_pos hidle, hbusy, Bool.and_false, Bool.or_false]
  rfl

/-- The touch registers once a reading has been added (R203). -/
def withReading (t : Touch) (r : Half) : Touch :=
  { t with calCnt := t.calCnt + 1, calSum := BitVec.ofNat 20 (t.calSum.toNat + r.toNat), senseTmr := 0 }

/-- A CAL_WAIT cycle with a SENSE_ACK takes the reading: after nine others CAL_DONE follows, else the gap (R203). -/
theorem step_of_reading {r : Half} (hlegal : s.params.legal = true) (hinv : s.invariant = true) (hphase : s.phase = 8)
    (hin : s.inputs = inputVector false false true r :: rest) : step s = .next
      (if s.touch.calCnt = 9 then { s with phase := 10, inputs := rest, touch := withReading s.touch r }
      else { s with
        phase := 9
        inputs := rest
        touch := { withReading s.touch r with calTimer := BitVec.ofNat 20 (s.params.calGapCyc - 1) } }) := by
  have hcurrent : currentIn s = inputVector false false true r := by rw [currentIn, hin]; rfl
  have hrow : exec (decodePh s.phase) s = .next (calibrationReading r s) := by
    rw [hphase]
    show exec .phCalWait s = _
    rw [exec_phCalWait_of_ack (by rw [hcurrent, inAck_inputVector]), hcurrent, inData_inputVector]
  rw [step_of_calibrating hlegal hinv (by rw [hphase]; decide) hin (inRst_inputVector _ _ _ _) hrow,
    calibrationReading_eq hlegal]
  split <;> rfl

/-! ## A reading and what follows it -/

/-- The gap: one cycle for each count of the timer down to 0, and then the next request (R204). -/
theorem runSteps_gap {n : Nat} (hlegal : s.params.legal = true) (hinv : s.invariant = true) (hphase : s.phase = 9)
    (htimer : s.touch.calTimer.toNat = n) (hin : s.inputs = List.replicate (n + 1) 0 ++ rest) :
    runSteps (n + 1) s = .next { s with phase := 8, inputs := rest, touch := { s.touch with calTimer := 0 } } := by
  have hge : 8 ≤ s.phase.toNat := by rw [hphase]; decide
  induction n generalizing s with
  | zero =>
    have hzero : s.touch.calTimer = 0 := BitVec.eq_of_toNat_eq htimer
    have hrow : exec (decodePh s.phase) s = .next { s with phase := 8 } := by
      rw [hphase]
      exact calibrationGapAndBaseline.1 s hzero
    rw [runSteps_succ, step_of_calibrating hlegal hinv hge hin rfl hrow, ← hzero]
    rfl
  | succ n ih =>
    have hne : s.touch.calTimer ≠ 0 := fun h => by simp [h] at htimer
    obtain ⟨c, hc, hcount⟩ := calibrationGapAndBaseline.2.1 s hne
    have hstep := step_of_calibrating hlegal hinv hge hin rfl (by rw [hphase]; exact hcount)
    rw [runSteps_succ, hstep, andThen_next]
    exact ih (s := { s with inputs := _, touch := { s.touch with calTimer := c } }) hlegal (step_invariant hstep) hphase
      (by show c.toNat = n; omega) rfl hge

/-- A reading that is not the tenth, and its gap: the next request is open (R203, R204). -/
theorem runSteps_reading {r : Half} (hlegal : s.params.legal = true) (hinv : s.invariant = true) (hphase : s.phase = 8)
    (hcnt : s.touch.calCnt ≠ 9)
    (hin : s.inputs = inputVector false false true r :: (List.replicate s.params.calGapCyc 0 ++ rest)) :
    runSteps (s.params.calGapCyc + 1) s =
      .next { s with inputs := rest, touch := { withReading s.touch r with calTimer := 0 } } := by
  have hgap : s.params.calGapCyc - 1 + 1 = s.params.calGapCyc := Nat.sub_add_cancel (calGapCyc_range hlegal).1
  have hstep := step_of_reading hlegal hinv hphase hin
  rw [if_neg hcnt] at hstep
  have hrun := runSteps_gap (s := { s with
      phase := 9
      inputs := List.replicate s.params.calGapCyc 0 ++ rest
      touch := { withReading s.touch r with calTimer := BitVec.ofNat 20 (s.params.calGapCyc - 1) } })
    hlegal (step_invariant hstep) rfl (calTimer_ofNat_toNat hlegal) (by rw [hgap])
  rw [hgap] at hrun
  rw [runSteps_succ, hstep, andThen_next, hrun, ← hphase]

/-- The tenth reading and CAL_DONE: the block is IDLE with its baseline (R203, R205). -/
theorem runSteps_lastReading {r : Half} (hlegal : s.params.legal = true) (hinv : s.invariant = true)
    (hphase : s.phase = 8) (hcnt : s.touch.calCnt = 9) (hin : s.inputs = inputVector false false true r :: 0 :: rest) :
    runSteps 2 s = .next { s with
      phase := 0
      inputs := rest
      touch := { withReading s.touch r with baseline := average s.params (withReading s.touch r).calSum } } := by
  have hstep := step_of_reading hlegal hinv hphase hin
  rw [if_pos hcnt] at hstep
  have hdone := step_of_calibrating (s := { s with phase := 10, inputs := 0 :: rest, touch := withReading s.touch r })
    hlegal (step_invariant hstep) (by show 8 ≤ 10; decide) rfl rfl rfl
  rw [runSteps_succ, hstep, andThen_next, runSteps_succ, hdone]
  rfl

end

/-! ## All the readings -/

/-- The touch registers after the last of some readings: the calibration's and the baseline, nothing else (R205). -/
def withReadings (p : Params) (t : Touch) (readings : List Half) : Touch :=
  let sum := BitVec.ofNat 20 (t.calSum.toNat + (readings.map BitVec.toNat).sum)
  { t with baseline := average p sum, calCnt := 10, calSum := sum, calTimer := 0, senseTmr := 0 }

/-- A first reading and its gap do not change what the calibration ends with. -/
theorem withReadings_cons (p : Params) (t : Touch) (r : Half) (readings : List Half) :
    withReadings p { withReading t r with calTimer := 0 } readings = withReadings p t (r :: readings) := by
  have hsum : ∀ a b : Nat, BitVec.ofNat 20 ((BitVec.ofNat 20 a).toNat + b) = BitVec.ofNat 20 (a + b) := fun a b => by
    rw [BitVec.ofNat_add, BitVec.ofNat_toNat, BitVec.setWidth_eq, ← BitVec.ofNat_add]
  simp only [withReadings, withReading, hsum, List.map_cons, List.sum_cons, Nat.add_assoc]

/-- The calibration from any of its requests on: the readings that are left make ten, and each but the last takes its gap. -/
theorem runSteps_readings {s : State} {r : Half} {readings : List Half} {rest : List InVec}
    (hlegal : s.params.legal = true) (hinv : s.invariant = true) (hphase : s.phase = 8)
    (hcnt : s.touch.calCnt.toNat + readings.length = 9) (htimer : readings ≠ [] ∨ s.touch.calTimer = 0)
    (hin : s.inputs = bootInputs s.params.calGapCyc (r :: readings) ++ rest) :
    runSteps (readings.length * (s.params.calGapCyc + 1) + 2) s =
      .next { s with phase := 0, inputs := rest, touch := withReadings s.params s.touch (r :: readings) } := by
  induction readings generalizing s r with
  | nil =>
    have hnine : s.touch.calCnt = 9 := BitVec.eq_of_toNat_eq hcnt
    have hzero : s.touch.calTimer = 0 := htimer.resolve_left (· rfl)
    have htouch : { withReading s.touch r with baseline := average s.params (withReading s.touch r).calSum } =
        withReadings s.params s.touch [r] := by
      simp [withReading, withReadings, hnine, hzero]
    rw [List.length_nil, Nat.zero_mul, Nat.zero_add, runSteps_lastReading (rest := rest) hlegal hinv hphase hnine hin,
      htouch]
  | cons r' readings ih =>
    rw [List.length_cons] at hcnt
    have hearlier : s.touch.calCnt ≠ 9 := fun h => by
      rw [h] at hcnt
      simp at hcnt
    have hfirst := runSteps_reading (r := r) hlegal hinv hphase hearlier
      (rest := bootInputs s.params.calGapCyc (r' :: readings) ++ rest) (by rw [hin]; simp [bootInputs])
    have hcycles : (readings.length + 1) * (s.params.calGapCyc + 1) + 2 =
        s.params.calGapCyc + 1 + (readings.length * (s.params.calGapCyc + 1) + 2) := by ring
    have hsucc : (withReading s.touch r).calCnt.toNat = s.touch.calCnt.toNat + 1 := calCnt_succ_toNat (by omega)
    rw [List.length_cons, hcycles, runSteps_add, hfirst, andThen_next, ← withReadings_cons]
    exact ih (s := { s with inputs := _, touch := { withReading s.touch r with calTimer := 0 } }) hlegal
      (runSteps_invariant hinv hfirst) hphase (by dsimp only; omega) (.inr rfl) rfl

end Sys2Proof.Machine

/-! SUPPORT. The obligations of 70_reset_and_hazards.md. -/

namespace Sys2Proof.Machine

/-- Settles O9: every field and every output of the reset state is a constant, and the cycle consumes its vector. -/
theorem resetGivesTheResetState : Obligations.ResetGivesTheResetState :=
  fun s _ hlegal => ⟨popInput (resetState s), if_pos hlegal,
    rfl, rfl, rfl, rfl, rfl, rfl, rfl, rfl, fun _ => rfl, rfl, rfl, rfl⟩

/-- Ten readings of 16 bits fit the sum's 20 bits. -/
theorem sum_readings_le (readings : List Half) : (readings.map BitVec.toNat).sum ≤ readings.length * 65535 := by
  have hle : ∀ n ∈ readings.map BitVec.toNat, n ≤ 65535 := by
    simp only [List.mem_map, forall_exists_index, and_imp, forall_apply_eq_imp_iff₂]
    exact fun r _ => Nat.le_of_lt_succ r.isLt
  simpa using List.sum_le_card_nsmul _ _ hle

/-- Settles O42: the run of ten readings from the first request on, whose sum does not wrap. -/
theorem bootCalibrates : Obligations.BootCalibrates := by
  intro s readings rest hlegal hinv hphase hcnt hsum hlength hin
  have hle := sum_readings_le readings
  have htotal : (BitVec.ofNat 20 (readings.map BitVec.toNat).sum).toNat = (readings.map BitVec.toNat).sum := by
    rw [BitVec.toNat_ofNat]
    omega
  refine ⟨_, average s.params _, htotal, average_toNat hlegal (by omega), ?_⟩
  obtain ⟨r, later, rfl⟩ := List.exists_cons_of_length_eq_add_one hlength
  have hnine : later.length = 9 := Nat.succ.inj hlength
  have hrun := runSteps_readings hlegal hinv hphase (by simp [hcnt, hnine]) (.inl fun h => by simp [h] at hnine) hin
  rw [hnine, Nat.add_comm] at hrun
  simpa [withReadings, hsum] using hrun

end Sys2Proof.Machine
